-- ==== Sys2Proof/Word.lean ====
section
/-! DEFINITION. The two word widths of the SM83 block: the 8-bit data bus and the 16-bit address bus (R6). -/

namespace Sys2Proof

/-- A byte: a general register, one memory cell, one data-bus transfer (R6). -/
abbrev Byte := BitVec 8

/-- A 16-bit word: PC, SP, a register pair, an address (R6). -/
abbrev Word := BitVec 16

end Sys2Proof
end

