-- ==== Sys2Proof/Syntax.lean ====
section
/-! DEFINITION. The syntax: the operand fields of R112 to R117 as inductive types, and `Instr`, one constructor per row
of spec/opcode_table.json. A constructor carries the immediate its row's format gives it: `n` and `e` one byte, `nn`
a word, low byte first in memory (R118). -/

namespace Sys2Proof

/-- The 8-bit registers an `r` field names (R112); the field's value 110 names memory at HL instead. -/
inductive Reg8 where
  | b | c | d | e | h | l | a
deriving DecidableEq, Repr

/-- The `dd` field's pairs (R113). -/
inductive Reg16 where
  | bc | de | hl | sp
deriving DecidableEq, Repr

/-- The `qq` field's pairs (R114). -/
inductive StackReg where
  | bc | de | hl | af
deriving DecidableEq, Repr

/-- The `cc` field's conditions (R115). -/
inductive Cond where
  | nz | z | nc | c
deriving DecidableEq, Repr

/-- The ALU operations of the `ooo` field in the main table (R117). -/
inductive AluOp where
  | add | adc | sub | sbc | and | xor | or | cp
deriving DecidableEq, Repr

/-- The rotate and shift operations of the `ooo` field in the CB table (R117). -/
inductive ShiftOp where
  | rlc | rrc | rl | rr | sla | sra | swap | srl
deriving DecidableEq, Repr

/-- A three-bit field's value: the opcode fields y and z (R111), a bit index `bbb` and a restart number `ttt`
(R116, R117). -/
inductive Oct where
  | o0 | o1 | o2 | o3 | o4 | o5 | o6 | o7
deriving DecidableEq, Repr

/-- The number a three-bit field holds. -/
def Oct.toNat : Oct → Nat
  | .o0 => 0 | .o1 => 1 | .o2 => 2 | .o3 => 3 | .o4 => 4 | .o5 => 5 | .o6 => 6 | .o7 => 7

/-- The instructions: one constructor per row of spec/opcode_table.json, the rows with an
immediate first (Lean's runtime wants the constructors that hold data among its first), then the others in the table's
order. `prefixCb` is the table's decode row for the CB format, with the CB opcode byte it is followed by (R265). -/
inductive Instr where
  -- the rows that carry an immediate byte or word
  | ldBcNn (nn : Word) | ldBN (n : Byte) | ldMemNnSp (nn : Word) | ldCN (n : Byte) | ldDeNn (nn : Word)
  | ldDN (n : Byte) | jrE8 (e : Byte) | ldEN (n : Byte) | jrNzE8 (e : Byte) | ldHlNn (nn : Word) | ldHN (n : Byte)
  | jrZE8 (e : Byte) | ldLN (n : Byte) | jrNcE8 (e : Byte) | ldSpNn (nn : Word) | ldMemHlN (n : Byte)
  | jrCE8 (e : Byte) | ldAN (n : Byte) | jpNzNn (nn : Word) | jpNn (nn : Word) | callNzNn (nn : Word)
  | addAN (n : Byte) | jpZNn (nn : Word) | prefixCb (c : Byte) | callZNn (nn : Word) | callNn (nn : Word)
  | adcAN (n : Byte) | jpNcNn (nn : Word) | callNcNn (nn : Word) | subN (n : Byte) | jpCNn (nn : Word)
  | callCNn (nn : Word) | sbcAN (n : Byte) | ldhMemNA (n : Byte) | andN (n : Byte) | addSpE8 (e : Byte)
  | ldMemNnA (nn : Word) | xorN (n : Byte) | ldhAMemN (n : Byte) | orN (n : Byte) | ldHlSpE8 (e : Byte)
  | ldAMemNn (nn : Word) | cpN (n : Byte)
  -- main table, 00 to 0F
  | nop | ldMemBcA | incBc | incB | decB | rlca | addHlBc | ldAMemBc | decBc | incC | decC | rrca
  -- main table, 10 to 1F
  | stop | ldMemDeA | incDe | incD | decD | rla | addHlDe | ldAMemDe | decDe | incE | decE | rra
  -- main table, 20 to 2F
  | ldMemHlIncA | incHl | incH | decH | daa | addHlHl | ldAMemHlInc | decHl | incL | decL | cpl
  -- main table, 30 to 3F
  | ldMemHlDecA | incSp | incMemHl | decMemHl | scf | addHlSp | ldAMemHlDec | decSp | incA | decA | ccf
  -- main table, 40 to 4F
  | ldBB | ldBC | ldBD | ldBE | ldBH | ldBL | ldBMemHl | ldBA | ldCB | ldCC | ldCD | ldCE | ldCH | ldCL | ldCMemHl
  | ldCA
  -- main table, 50 to 5F
  | ldDB | ldDC | ldDD | ldDE | ldDH | ldDL | ldDMemHl | ldDA | ldEB | ldEC | ldED | ldEE | ldEH | ldEL | ldEMemHl
  | ldEA
  -- main table, 60 to 6F
  | ldHB | ldHC | ldHD | ldHE | ldHH | ldHL | ldHMemHl | ldHA | ldLB | ldLC | ldLD | ldLE | ldLH | ldLL | ldLMemHl
  | ldLA
  -- main table, 70 to 7F
  | ldMemHlB | ldMemHlC | ldMemHlD | ldMemHlE | ldMemHlH | ldMemHlL | halt | ldMemHlA | ldAB | ldAC | ldAD | ldAE
  | ldAH | ldAL | ldAMemHl | ldAA
  -- main table, 80 to 8F
  | addAB | addAC | addAD | addAE | addAH | addAL | addAMemHl | addAA | adcAB | adcAC | adcAD | adcAE | adcAH | adcAL
  | adcAMemHl | adcAA
  -- main table, 90 to 9F
  | subB | subC | subD | subE | subH | subL | subMemHl | subA | sbcAB | sbcAC | sbcAD | sbcAE | sbcAH | sbcAL
  | sbcAMemHl | sbcAA
  -- main table, A0 to AF
  | andB | andC | andD | andE | andH | andL | andMemHl | andA | xorB | xorC | xorD | xorE | xorH | xorL | xorMemHl
  | xorA
  -- main table, B0 to BF
  | orB | orC | orD | orE | orH | orL | orMemHl | orA | cpB | cpC | cpD | cpE | cpH | cpL | cpMemHl | cpA
  -- main table, C0 to CF
  | retNz | popBc | pushBc | rst00 | retZ | ret | rst08
  -- main table, D0 to DF
  | retNc | popDe | undefinedD3 | pushDe | rst10 | retC | reti | undefinedDB | undefinedDD | rst18
  -- main table, E0 to EF
  | popHl | ldhMemCA | undefinedE3 | undefinedE4 | pushHl | rst20 | jpHl | undefinedEB | undefinedEC | undefinedED
  | rst28
  -- main table, F0 to FF
  | popAf | ldhAMemC | di | undefinedF4 | pushAf | rst30 | ldSpHl | ei | undefinedFC | undefinedFD | rst38
  -- CB table, 00 to 0F
  | rlcB | rlcC | rlcD | rlcE | rlcH | rlcL | rlcMemHl | rlcA | rrcB | rrcC | rrcD | rrcE | rrcH | rrcL | rrcMemHl
  | rrcA
  -- CB table, 10 to 1F
  | rlB | rlC | rlD | rlE | rlH | rlL | rlMemHl | rlA | rrB | rrC | rrD | rrE | rrH | rrL | rrMemHl | rrA
  -- CB table, 20 to 2F
  | slaB | slaC | slaD | slaE | slaH | slaL | slaMemHl | slaA | sraB | sraC | sraD | sraE | sraH | sraL | sraMemHl
  | sraA
  -- CB table, 30 to 3F
  | swapB | swapC | swapD | swapE | swapH | swapL | swapMemHl | swapA | srlB | srlC | srlD | srlE | srlH | srlL
  | srlMemHl | srlA
  -- CB table, 40 to 4F
  | bit0B | bit0C | bit0D | bit0E | bit0H | bit0L | bit0MemHl | bit0A | bit1B | bit1C | bit1D | bit1E | bit1H | bit1L
  | bit1MemHl | bit1A
  -- CB table, 50 to 5F
  | bit2B | bit2C | bit2D | bit2E | bit2H | bit2L | bit2MemHl | bit2A | bit3B | bit3C | bit3D | bit3E | bit3H | bit3L
  | bit3MemHl | bit3A
  -- CB table, 60 to 6F
  | bit4B | bit4C | bit4D | bit4E | bit4H | bit4L | bit4MemHl | bit4A | bit5B | bit5C | bit5D | bit5E | bit5H | bit5L
  | bit5MemHl | bit5A
  -- CB table, 70 to 7F
  | bit6B | bit6C | bit6D | bit6E | bit6H | bit6L | bit6MemHl | bit6A | bit7B | bit7C | bit7D | bit7E | bit7H | bit7L
  | bit7MemHl | bit7A
  -- CB table, 80 to 8F
  | res0B | res0C | res0D | res0E | res0H | res0L | res0MemHl | res0A | res1B | res1C | res1D | res1E | res1H | res1L
  | res1MemHl | res1A
  -- CB table, 90 to 9F
  | res2B | res2C | res2D | res2E | res2H | res2L | res2MemHl | res2A | res3B | res3C | res3D | res3E | res3H | res3L
  | res3MemHl | res3A
  -- CB table, A0 to AF
  | res4B | res4C | res4D | res4E | res4H | res4L | res4MemHl | res4A | res5B | res5C | res5D | res5E | res5H | res5L
  | res5MemHl | res5A
  -- CB table, B0 to BF
  | res6B | res6C | res6D | res6E | res6H | res6L | res6MemHl | res6A | res7B | res7C | res7D | res7E | res7H | res7L
  | res7MemHl | res7A
  -- CB table, C0 to CF
  | set0B | set0C | set0D | set0E | set0H | set0L | set0MemHl | set0A | set1B | set1C | set1D | set1E | set1H | set1L
  | set1MemHl | set1A
  -- CB table, D0 to DF
  | set2B | set2C | set2D | set2E | set2H | set2L | set2MemHl | set2A | set3B | set3C | set3D | set3E | set3H | set3L
  | set3MemHl | set3A
  -- CB table, E0 to EF
  | set4B | set4C | set4D | set4E | set4H | set4L | set4MemHl | set4A | set5B | set5C | set5D | set5E | set5H | set5L
  | set5MemHl | set5A
  -- CB table, F0 to FF
  | set6B | set6C | set6D | set6E | set6H | set6L | set6MemHl | set6A | set7B | set7C | set7D | set7E | set7H | set7L
  | set7MemHl | set7A
deriving DecidableEq, Repr

end Sys2Proof
end

