-- ==== Sys2Proof/Decode.lean ====
section
/-! DEFINITION. The decoder, by the opcode fields of 30_encoding.md (R110 to R122), total on any bytes; after it the
encoder, row by row from spec/opcode_table.json; and the two readings of a table word the host asks for.
The decoder and the encoder are written from different texts of the spec, so the round trip compares the two. -/

namespace Sys2Proof

/-! ## Bytes of a word (R87: little-endian) -/

/-- The low byte of a word, `v[7:0]`. -/
def loByte (w : Word) : Byte := w.extractLsb' 0 8

/-- The high byte of a word, `v[15:8]`. -/
def hiByte (w : Word) : Byte := w.extractLsb' 8 8

/-- `hi ++ lo` (R8): the word with these two bytes. -/
def wordOf (hi lo : Byte) : Word := hi ++ lo

/-! ## The instructions a field value selects -/

/-- `LD r,r'` (R130): 49 rows. -/
def Instr.ldRegReg : Reg8 → Reg8 → Instr
  | .b, .b => .ldBB | .b, .c => .ldBC | .b, .d => .ldBD | .b, .e => .ldBE | .b, .h => .ldBH | .b, .l => .ldBL
  | .b, .a => .ldBA | .c, .b => .ldCB | .c, .c => .ldCC | .c, .d => .ldCD | .c, .e => .ldCE | .c, .h => .ldCH
  | .c, .l => .ldCL | .c, .a => .ldCA | .d, .b => .ldDB | .d, .c => .ldDC | .d, .d => .ldDD | .d, .e => .ldDE
  | .d, .h => .ldDH | .d, .l => .ldDL | .d, .a => .ldDA | .e, .b => .ldEB | .e, .c => .ldEC | .e, .d => .ldED
  | .e, .e => .ldEE | .e, .h => .ldEH | .e, .l => .ldEL | .e, .a => .ldEA | .h, .b => .ldHB | .h, .c => .ldHC
  | .h, .d => .ldHD | .h, .e => .ldHE | .h, .h => .ldHH | .h, .l => .ldHL | .h, .a => .ldHA | .l, .b => .ldLB
  | .l, .c => .ldLC | .l, .d => .ldLD | .l, .e => .ldLE | .l, .h => .ldLH | .l, .l => .ldLL | .l, .a => .ldLA
  | .a, .b => .ldAB | .a, .c => .ldAC | .a, .d => .ldAD | .a, .e => .ldAE | .a, .h => .ldAH | .a, .l => .ldAL
  | .a, .a => .ldAA

/-- `LD r,n` (R131): 7 rows. -/
def Instr.ldRegImm : Reg8 → Byte → Instr
  | .b, n => .ldBN n | .c, n => .ldCN n | .d, n => .ldDN n | .e, n => .ldEN n | .h, n => .ldHN n | .l, n => .ldLN n
  | .a, n => .ldAN n

/-- `LD r,(HL)` (R132): 7 rows. -/
def Instr.ldRegMemHl : Reg8 → Instr
  | .b => .ldBMemHl | .c => .ldCMemHl | .d => .ldDMemHl | .e => .ldEMemHl | .h => .ldHMemHl | .l => .ldLMemHl
  | .a => .ldAMemHl

/-- `LD (HL),r` (R133): 7 rows. -/
def Instr.ldMemHlReg : Reg8 → Instr
  | .b => .ldMemHlB | .c => .ldMemHlC | .d => .ldMemHlD | .e => .ldMemHlE | .h => .ldMemHlH | .l => .ldMemHlL
  | .a => .ldMemHlA

/-- `LD rr,nn` (R150): 4 rows. -/
def Instr.ldReg16Imm : Reg16 → Word → Instr
  | .bc, nn => .ldBcNn nn | .de, nn => .ldDeNn nn | .hl, nn => .ldHlNn nn | .sp, nn => .ldSpNn nn

/-- `PUSH qq` (R153): 4 rows. -/
def Instr.pushReg : StackReg → Instr
  | .bc => .pushBc | .de => .pushDe | .hl => .pushHl | .af => .pushAf

/-- `POP qq` (R154): 4 rows. -/
def Instr.popReg : StackReg → Instr
  | .bc => .popBc | .de => .popDe | .hl => .popHl | .af => .popAf

/-- The register forms of the ALU operations (R161, R164, R167, R170, R173, R176, R179, R182): 56 rows. -/
def Instr.aluReg : AluOp → Reg8 → Instr
  | .add, .b => .addAB | .add, .c => .addAC | .add, .d => .addAD | .add, .e => .addAE | .add, .h => .addAH
  | .add, .l => .addAL | .add, .a => .addAA | .adc, .b => .adcAB | .adc, .c => .adcAC | .adc, .d => .adcAD
  | .adc, .e => .adcAE | .adc, .h => .adcAH | .adc, .l => .adcAL | .adc, .a => .adcAA | .sub, .b => .subB
  | .sub, .c => .subC | .sub, .d => .subD | .sub, .e => .subE | .sub, .h => .subH | .sub, .l => .subL
  | .sub, .a => .subA | .sbc, .b => .sbcAB | .sbc, .c => .sbcAC | .sbc, .d => .sbcAD | .sbc, .e => .sbcAE
  | .sbc, .h => .sbcAH | .sbc, .l => .sbcAL | .sbc, .a => .sbcAA | .and, .b => .andB | .and, .c => .andC
  | .and, .d => .andD | .and, .e => .andE | .and, .h => .andH | .and, .l => .andL | .and, .a => .andA
  | .xor, .b => .xorB | .xor, .c => .xorC | .xor, .d => .xorD | .xor, .e => .xorE | .xor, .h => .xorH
  | .xor, .l => .xorL | .xor, .a => .xorA | .or, .b => .orB | .or, .c => .orC | .or, .d => .orD | .or, .e => .orE
  | .or, .h => .orH | .or, .l => .orL | .or, .a => .orA | .cp, .b => .cpB | .cp, .c => .cpC | .cp, .d => .cpD
  | .cp, .e => .cpE | .cp, .h => .cpH | .cp, .l => .cpL | .cp, .a => .cpA

/-- The `(HL)` forms of the ALU operations (R162, R165, R168, R171, R174, R177, R180, R183): 8 rows. -/
def Instr.aluMemHl : AluOp → Instr
  | .add => .addAMemHl | .adc => .adcAMemHl | .sub => .subMemHl | .sbc => .sbcAMemHl | .and => .andMemHl
  | .xor => .xorMemHl | .or => .orMemHl | .cp => .cpMemHl

/-- The immediate forms of the ALU operations (R163, R166, R169, R172, R175, R178, R181, R184): 8 rows. -/
def Instr.aluImm : AluOp → Byte → Instr
  | .add, n => .addAN n | .adc, n => .adcAN n | .sub, n => .subN n | .sbc, n => .sbcAN n | .and, n => .andN n
  | .xor, n => .xorN n | .or, n => .orN n | .cp, n => .cpN n

/-- `INC r` (R185): 7 rows. -/
def Instr.incReg : Reg8 → Instr
  | .b => .incB | .c => .incC | .d => .incD | .e => .incE | .h => .incH | .l => .incL | .a => .incA

/-- `DEC r` (R187): 7 rows. -/
def Instr.decReg : Reg8 → Instr
  | .b => .decB | .c => .decC | .d => .decD | .e => .decE | .h => .decH | .l => .decL | .a => .decA

/-- `ADD HL,rr` (R201): 4 rows. -/
def Instr.addHlReg16 : Reg16 → Instr
  | .bc => .addHlBc | .de => .addHlDe | .hl => .addHlHl | .sp => .addHlSp

/-- `INC rr` (R202): 4 rows. -/
def Instr.incReg16 : Reg16 → Instr
  | .bc => .incBc | .de => .incDe | .hl => .incHl | .sp => .incSp

/-- `DEC rr` (R203): 4 rows. -/
def Instr.decReg16 : Reg16 → Instr
  | .bc => .decBc | .de => .decDe | .hl => .decHl | .sp => .decSp

/-- `JP cc,nn` (R242): 4 rows. -/
def Instr.jpCond : Cond → Word → Instr
  | .nz, nn => .jpNzNn nn | .z, nn => .jpZNn nn | .nc, nn => .jpNcNn nn | .c, nn => .jpCNn nn

/-- `JR cc,e8` (R245): 4 rows. -/
def Instr.jrCond : Cond → Byte → Instr
  | .nz, e => .jrNzE8 e | .z, e => .jrZE8 e | .nc, e => .jrNcE8 e | .c, e => .jrCE8 e

/-- `CALL cc,nn` (R247): 4 rows. -/
def Instr.callCond : Cond → Word → Instr
  | .nz, nn => .callNzNn nn | .z, nn => .callZNn nn | .nc, nn => .callNcNn nn | .c, nn => .callCNn nn

/-- `RET cc` (R249): 4 rows. -/
def Instr.retCond : Cond → Instr
  | .nz => .retNz | .z => .retZ | .nc => .retNc | .c => .retC

/-- `RST t` (R251): 8 rows, by the field ttt. -/
def Instr.rst : Oct → Instr
  | .o0 => .rst00 | .o1 => .rst08 | .o2 => .rst10 | .o3 => .rst18 | .o4 => .rst20 | .o5 => .rst28 | .o6 => .rst30
  | .o7 => .rst38

/-- The register forms of the CB rotates and shifts (R214, R216, R218, R220, R222, R224, R226, R228): 56 rows. -/
def Instr.shiftReg : ShiftOp → Reg8 → Instr
  | .rlc, .b => .rlcB | .rlc, .c => .rlcC | .rlc, .d => .rlcD | .rlc, .e => .rlcE | .rlc, .h => .rlcH
  | .rlc, .l => .rlcL | .rlc, .a => .rlcA | .rrc, .b => .rrcB | .rrc, .c => .rrcC | .rrc, .d => .rrcD
  | .rrc, .e => .rrcE | .rrc, .h => .rrcH | .rrc, .l => .rrcL | .rrc, .a => .rrcA | .rl, .b => .rlB | .rl, .c => .rlC
  | .rl, .d => .rlD | .rl, .e => .rlE | .rl, .h => .rlH | .rl, .l => .rlL | .rl, .a => .rlA | .rr, .b => .rrB
  | .rr, .c => .rrC | .rr, .d => .rrD | .rr, .e => .rrE | .rr, .h => .rrH | .rr, .l => .rrL | .rr, .a => .rrA
  | .sla, .b => .slaB | .sla, .c => .slaC | .sla, .d => .slaD | .sla, .e => .slaE | .sla, .h => .slaH
  | .sla, .l => .slaL | .sla, .a => .slaA | .sra, .b => .sraB | .sra, .c => .sraC | .sra, .d => .sraD
  | .sra, .e => .sraE | .sra, .h => .sraH | .sra, .l => .sraL | .sra, .a => .sraA | .swap, .b => .swapB
  | .swap, .c => .swapC | .swap, .d => .swapD | .swap, .e => .swapE | .swap, .h => .swapH | .swap, .l => .swapL
  | .swap, .a => .swapA | .srl, .b => .srlB | .srl, .c => .srlC | .srl, .d => .srlD | .srl, .e => .srlE
  | .srl, .h => .srlH | .srl, .l => .srlL | .srl, .a => .srlA

/-- The `(HL)` forms of the CB rotates and shifts (R215, R217, R219, R221, R223, R225, R227, R229): 8 rows. -/
def Instr.shiftMemHl : ShiftOp → Instr
  | .rlc => .rlcMemHl | .rrc => .rrcMemHl | .rl => .rlMemHl | .rr => .rrMemHl | .sla => .slaMemHl | .sra => .sraMemHl
  | .swap => .swapMemHl | .srl => .srlMemHl

/-- `BIT b,r` (R230): 56 rows. -/
def Instr.bitReg : Oct → Reg8 → Instr
  | .o0, .b => .bit0B | .o0, .c => .bit0C | .o0, .d => .bit0D | .o0, .e => .bit0E | .o0, .h => .bit0H
  | .o0, .l => .bit0L | .o0, .a => .bit0A | .o1, .b => .bit1B | .o1, .c => .bit1C | .o1, .d => .bit1D
  | .o1, .e => .bit1E | .o1, .h => .bit1H | .o1, .l => .bit1L | .o1, .a => .bit1A | .o2, .b => .bit2B
  | .o2, .c => .bit2C | .o2, .d => .bit2D | .o2, .e => .bit2E | .o2, .h => .bit2H | .o2, .l => .bit2L
  | .o2, .a => .bit2A | .o3, .b => .bit3B | .o3, .c => .bit3C | .o3, .d => .bit3D | .o3, .e => .bit3E
  | .o3, .h => .bit3H | .o3, .l => .bit3L | .o3, .a => .bit3A | .o4, .b => .bit4B | .o4, .c => .bit4C
  | .o4, .d => .bit4D | .o4, .e => .bit4E | .o4, .h => .bit4H | .o4, .l => .bit4L | .o4, .a => .bit4A
  | .o5, .b => .bit5B | .o5, .c => .bit5C | .o5, .d => .bit5D | .o5, .e => .bit5E | .o5, .h => .bit5H
  | .o5, .l => .bit5L | .o5, .a => .bit5A | .o6, .b => .bit6B | .o6, .c => .bit6C | .o6, .d => .bit6D
  | .o6, .e => .bit6E | .o6, .h => .bit6H | .o6, .l => .bit6L | .o6, .a => .bit6A | .o7, .b => .bit7B
  | .o7, .c => .bit7C | .o7, .d => .bit7D | .o7, .e => .bit7E | .o7, .h => .bit7H | .o7, .l => .bit7L
  | .o7, .a => .bit7A

/-- `BIT b,(HL)` (R231): 8 rows. -/
def Instr.bitMemHl : Oct → Instr
  | .o0 => .bit0MemHl | .o1 => .bit1MemHl | .o2 => .bit2MemHl | .o3 => .bit3MemHl | .o4 => .bit4MemHl
  | .o5 => .bit5MemHl | .o6 => .bit6MemHl | .o7 => .bit7MemHl

/-- `RES b,r` (R232): 56 rows. -/
def Instr.resReg : Oct → Reg8 → Instr
  | .o0, .b => .res0B | .o0, .c => .res0C | .o0, .d => .res0D | .o0, .e => .res0E | .o0, .h => .res0H
  | .o0, .l => .res0L | .o0, .a => .res0A | .o1, .b => .res1B | .o1, .c => .res1C | .o1, .d => .res1D
  | .o1, .e => .res1E | .o1, .h => .res1H | .o1, .l => .res1L | .o1, .a => .res1A | .o2, .b => .res2B
  | .o2, .c => .res2C | .o2, .d => .res2D | .o2, .e => .res2E | .o2, .h => .res2H | .o2, .l => .res2L
  | .o2, .a => .res2A | .o3, .b => .res3B | .o3, .c => .res3C | .o3, .d => .res3D | .o3, .e => .res3E
  | .o3, .h => .res3H | .o3, .l => .res3L | .o3, .a => .res3A | .o4, .b => .res4B | .o4, .c => .res4C
  | .o4, .d => .res4D | .o4, .e => .res4E | .o4, .h => .res4H | .o4, .l => .res4L | .o4, .a => .res4A
  | .o5, .b => .res5B | .o5, .c => .res5C | .o5, .d => .res5D | .o5, .e => .res5E | .o5, .h => .res5H
  | .o5, .l => .res5L | .o5, .a => .res5A | .o6, .b => .res6B | .o6, .c => .res6C | .o6, .d => .res6D
  | .o6, .e => .res6E | .o6, .h => .res6H | .o6, .l => .res6L | .o6, .a => .res6A | .o7, .b => .res7B
  | .o7, .c => .res7C | .o7, .d => .res7D | .o7, .e => .res7E | .o7, .h => .res7H | .o7, .l => .res7L
  | .o7, .a => .res7A

/-- `RES b,(HL)` (R233): 8 rows. -/
def Instr.resMemHl : Oct → Instr
  | .o0 => .res0MemHl | .o1 => .res1MemHl | .o2 => .res2MemHl | .o3 => .res3MemHl | .o4 => .res4MemHl
  | .o5 => .res5MemHl | .o6 => .res6MemHl | .o7 => .res7MemHl

/-- `SET b,r` (R234): 56 rows. -/
def Instr.setReg : Oct → Reg8 → Instr
  | .o0, .b => .set0B | .o0, .c => .set0C | .o0, .d => .set0D | .o0, .e => .set0E | .o0, .h => .set0H
  | .o0, .l => .set0L | .o0, .a => .set0A | .o1, .b => .set1B | .o1, .c => .set1C | .o1, .d => .set1D
  | .o1, .e => .set1E | .o1, .h => .set1H | .o1, .l => .set1L | .o1, .a => .set1A | .o2, .b => .set2B
  | .o2, .c => .set2C | .o2, .d => .set2D | .o2, .e => .set2E | .o2, .h => .set2H | .o2, .l => .set2L
  | .o2, .a => .set2A | .o3, .b => .set3B | .o3, .c => .set3C | .o3, .d => .set3D | .o3, .e => .set3E
  | .o3, .h => .set3H | .o3, .l => .set3L | .o3, .a => .set3A | .o4, .b => .set4B | .o4, .c => .set4C
  | .o4, .d => .set4D | .o4, .e => .set4E | .o4, .h => .set4H | .o4, .l => .set4L | .o4, .a => .set4A
  | .o5, .b => .set5B | .o5, .c => .set5C | .o5, .d => .set5D | .o5, .e => .set5E | .o5, .h => .set5H
  | .o5, .l => .set5L | .o5, .a => .set5A | .o6, .b => .set6B | .o6, .c => .set6C | .o6, .d => .set6D
  | .o6, .e => .set6E | .o6, .h => .set6H | .o6, .l => .set6L | .o6, .a => .set6A | .o7, .b => .set7B
  | .o7, .c => .set7C | .o7, .d => .set7D | .o7, .e => .set7E | .o7, .h => .set7H | .o7, .l => .set7L
  | .o7, .a => .set7A

/-- `SET b,(HL)` (R235): 8 rows. -/
def Instr.setMemHl : Oct → Instr
  | .o0 => .set0MemHl | .o1 => .set1MemHl | .o2 => .set2MemHl | .o3 => .set3MemHl | .o4 => .set4MemHl
  | .o5 => .set5MemHl | .o6 => .set6MemHl | .o7 => .set7MemHl

/-! ## Fields of an opcode byte (R111) -/

/-- A three-bit number as the value of a field. -/
def octOf (v : BitVec 3) : Oct :=
  if v = 0 then .o0 else if v = 1 then .o1 else if v = 2 then .o2 else if v = 3 then .o3
  else if v = 4 then .o4 else if v = 5 then .o5 else if v = 6 then .o6 else .o7

/-- The field y, bits 5:3. -/
def fieldY (op : Byte) : Oct := octOf (op.extractLsb' 3 3)

/-- The field z, bits 2:0. -/
def fieldZ (op : Byte) : Oct := octOf (op.extractLsb' 0 3)

/-- The register an `r` field names, `none` for 110, the memory byte at HL (R112). -/
def reg8Of : Oct → Option Reg8
  | .o0 => some .b | .o1 => some .c | .o2 => some .d | .o3 => some .e
  | .o4 => some .h | .o5 => some .l | .o6 => none | .o7 => some .a

/-- The ALU operation of the field `ooo` (R117). -/
def aluOpOf : Oct → AluOp
  | .o0 => .add | .o1 => .adc | .o2 => .sub | .o3 => .sbc
  | .o4 => .and | .o5 => .xor | .o6 => .or | .o7 => .cp

/-- The CB shift operation of the field `ooo` (R117). -/
def shiftOpOf : Oct → ShiftOp
  | .o0 => .rlc | .o1 => .rrc | .o2 => .rl | .o3 => .rr
  | .o4 => .sla | .o5 => .sra | .o6 => .swap | .o7 => .srl

/-! ## The CB table (R119) -/

/-- The CB row of a second opcode byte, `xx yyy zzz`: shift, BIT, RES or SET. -/
def decodeCb (c : Byte) : Instr :=
  let x := c.extractLsb' 6 2
  match reg8Of (fieldZ c) with
  | some r =>
    if x = 0 then Instr.shiftReg (shiftOpOf (fieldY c)) r
    else if x = 1 then Instr.bitReg (fieldY c) r
    else if x = 2 then Instr.resReg (fieldY c) r
    else Instr.setReg (fieldY c) r
  | none =>
    if x = 0 then Instr.shiftMemHl (shiftOpOf (fieldY c))
    else if x = 1 then Instr.bitMemHl (fieldY c)
    else if x = 2 then Instr.resMemHl (fieldY c)
    else Instr.setMemHl (fieldY c)

/-! ## The main table

Each quarter of the table by the field x; the columns are the field z, the rows the field y, where p is y[2:1] and q is
y[0] (R111). The patterns are those of the rules R130 to R266. -/

/-- x = 00. -/
def decodeX0 (y z : Oct) (n : Byte) (nn : Word) : Instr :=
  match z with
  | .o0 =>
    match y with
    | .o0 => .nop | .o1 => .ldMemNnSp nn | .o2 => .stop | .o3 => .jrE8 n
    | .o4 => Instr.jrCond .nz n | .o5 => Instr.jrCond .z n | .o6 => Instr.jrCond .nc n | .o7 => Instr.jrCond .c n
  | .o1 =>
    match y with
    | .o0 => Instr.ldReg16Imm .bc nn | .o2 => Instr.ldReg16Imm .de nn
    | .o4 => Instr.ldReg16Imm .hl nn | .o6 => Instr.ldReg16Imm .sp nn
    | .o1 => Instr.addHlReg16 .bc | .o3 => Instr.addHlReg16 .de
    | .o5 => Instr.addHlReg16 .hl | .o7 => Instr.addHlReg16 .sp
  | .o2 =>
    match y with
    | .o0 => .ldMemBcA | .o1 => .ldAMemBc | .o2 => .ldMemDeA | .o3 => .ldAMemDe
    | .o4 => .ldMemHlIncA | .o5 => .ldAMemHlInc | .o6 => .ldMemHlDecA | .o7 => .ldAMemHlDec
  | .o3 =>
    match y with
    | .o0 => Instr.incReg16 .bc | .o2 => Instr.incReg16 .de | .o4 => Instr.incReg16 .hl | .o6 => Instr.incReg16 .sp
    | .o1 => Instr.decReg16 .bc | .o3 => Instr.decReg16 .de | .o5 => Instr.decReg16 .hl | .o7 => Instr.decReg16 .sp
  | .o4 => match reg8Of y with | some r => Instr.incReg r | none => .incMemHl
  | .o5 => match reg8Of y with | some r => Instr.decReg r | none => .decMemHl
  | .o6 => match reg8Of y with | some r => Instr.ldRegImm r n | none => .ldMemHlN n
  | .o7 =>
    match y with
    | .o0 => .rlca | .o1 => .rrca | .o2 => .rla | .o3 => .rra
    | .o4 => .daa | .o5 => .cpl | .o6 => .scf | .o7 => .ccf

/-- x = 01: the loads between registers and (HL), and HALT where both fields are 110 (R112). -/
def decodeX1 (y z : Oct) : Instr :=
  match reg8Of y, reg8Of z with
  | some r1, some r2 => Instr.ldRegReg r1 r2
  | some r, none => Instr.ldRegMemHl r
  | none, some r => Instr.ldMemHlReg r
  | none, none => .halt

/-- x = 10: the ALU operations on a register or (HL). -/
def decodeX2 (y z : Oct) : Instr :=
  match reg8Of z with
  | some r => Instr.aluReg (aluOpOf y) r
  | none => Instr.aluMemHl (aluOpOf y)

/-- x = 11, with the undefined opcodes of R120; `n` is the CB opcode byte where the opcode is the prefix 0xCB. -/
def decodeX3 (y z : Oct) (n : Byte) (nn : Word) : Instr :=
  match z with
  | .o0 =>
    match y with
    | .o0 => Instr.retCond .nz | .o1 => Instr.retCond .z | .o2 => Instr.retCond .nc | .o3 => Instr.retCond .c
    | .o4 => .ldhMemNA n | .o5 => .addSpE8 n | .o6 => .ldhAMemN n | .o7 => .ldHlSpE8 n
  | .o1 =>
    match y with
    | .o0 => Instr.popReg .bc | .o2 => Instr.popReg .de | .o4 => Instr.popReg .hl | .o6 => Instr.popReg .af
    | .o1 => .ret | .o3 => .reti | .o5 => .jpHl | .o7 => .ldSpHl
  | .o2 =>
    match y with
    | .o0 => Instr.jpCond .nz nn | .o1 => Instr.jpCond .z nn | .o2 => Instr.jpCond .nc nn | .o3 => Instr.jpCond .c nn
    | .o4 => .ldhMemCA | .o5 => .ldMemNnA nn | .o6 => .ldhAMemC | .o7 => .ldAMemNn nn
  | .o3 =>
    match y with
    | .o0 => .jpNn nn | .o1 => decodeCb n | .o2 => .undefinedD3 | .o3 => .undefinedDB
    | .o4 => .undefinedE3 | .o5 => .undefinedEB | .o6 => .di | .o7 => .ei
  | .o4 =>
    match y with
    | .o0 => Instr.callCond .nz nn | .o1 => Instr.callCond .z nn
    | .o2 => Instr.callCond .nc nn | .o3 => Instr.callCond .c nn
    | .o4 => .undefinedE4 | .o5 => .undefinedEC | .o6 => .undefinedF4 | .o7 => .undefinedFC
  | .o5 =>
    match y with
    | .o0 => Instr.pushReg .bc | .o2 => Instr.pushReg .de | .o4 => Instr.pushReg .hl | .o6 => Instr.pushReg .af
    | .o1 => .callNn nn | .o3 => .undefinedDD | .o5 => .undefinedED | .o7 => .undefinedFD
  | .o6 => Instr.aluImm (aluOpOf y) n
  | .o7 => Instr.rst y

/-- The instruction of an opcode byte and the two bytes after it, of which it uses as many as it is long. -/
def decodeOp (op b1 b2 : Byte) : Instr :=
  let x := op.extractLsb' 6 2
  if x = 0 then decodeX0 (fieldY op) (fieldZ op) b1 (wordOf b2 b1)
  else if x = 1 then decodeX1 (fieldY op) (fieldZ op)
  else if x = 2 then decodeX2 (fieldY op) (fieldZ op)
  else decodeX3 (fieldY op) (fieldZ op) b1 (wordOf b2 b1)

/-! ## Lengths (R121) -/

/-- The `length` field of each main-table row, by opcode. -/
def lengthTable : List Nat :=
  [1, 3, 1, 1, 1, 1, 2, 1, 3, 1, 1, 1, 1, 1, 2, 1,
   2, 3, 1, 1, 1, 1, 2, 1, 2, 1, 1, 1, 1, 1, 2, 1,
   2, 3, 1, 1, 1, 1, 2, 1, 2, 1, 1, 1, 1, 1, 2, 1,
   2, 3, 1, 1, 1, 1, 2, 1, 2, 1, 1, 1, 1, 1, 2, 1,
   1, 1, 1, 1, 1, 1, 1, 1, 1, 1, 1, 1, 1, 1, 1, 1,
   1, 1, 1, 1, 1, 1, 1, 1, 1, 1, 1, 1, 1, 1, 1, 1,
   1, 1, 1, 1, 1, 1, 1, 1, 1, 1, 1, 1, 1, 1, 1, 1,
   1, 1, 1, 1, 1, 1, 1, 1, 1, 1, 1, 1, 1, 1, 1, 1,
   1, 1, 1, 1, 1, 1, 1, 1, 1, 1, 1, 1, 1, 1, 1, 1,
   1, 1, 1, 1, 1, 1, 1, 1, 1, 1, 1, 1, 1, 1, 1, 1,
   1, 1, 1, 1, 1, 1, 1, 1, 1, 1, 1, 1, 1, 1, 1, 1,
   1, 1, 1, 1, 1, 1, 1, 1, 1, 1, 1, 1, 1, 1, 1, 1,
   1, 1, 3, 3, 3, 1, 2, 1, 1, 1, 3, 2, 3, 3, 2, 1,
   1, 1, 3, 1, 3, 1, 2, 1, 1, 1, 3, 1, 3, 1, 2, 1,
   2, 1, 1, 1, 1, 1, 2, 1, 2, 1, 3, 1, 1, 1, 2, 1,
   2, 1, 1, 1, 1, 1, 2, 1, 2, 1, 3, 1, 1, 1, 2, 1]

/-- The length in bytes of an instruction whose first byte is `op`. -/
def lengthOf (op : Byte) : Nat := lengthTable.getD op.toNat 1

/-- How many bytes after the opcode the CPU reads to complete the instruction (R110): all of them, but for STOP, whose
second byte is skipped without a bus access (R262). -/
def operandReads (op : Byte) : Nat := if op = 0x10 then 0 else lengthOf op - 1

/-! ## The decoder -/

/-- Why a list of bytes is no instruction. Every opcode byte starts one (R120, R122), so bytes can only be missing. -/
inductive DecodeError where
  | noBytes
  | truncated
deriving DecidableEq, Repr

/-- Read one instruction from the front of a list of bytes, with the bytes that are left. -/
def decode : List Byte → Except DecodeError (Instr × List Byte)
  | [] => .error .noBytes
  | op :: rest =>
    match lengthOf op, rest with
    | 1, rest => .ok (decodeOp op 0 0, rest)
    | 2, b1 :: rest => .ok (decodeOp op b1 0, rest)
    | 3, b1 :: b2 :: rest => .ok (decodeOp op b1 b2, rest)
    | _, _ => .error .truncated

/-! ## The encoder -/

/-- The bytes of an instruction in fetch order, row by row from spec/opcode_table.json; STOP's ignored byte is 00. -/
def encode : Instr → List Byte
  | .nop => [0x00] | .ldBcNn nn => [0x01, loByte nn, hiByte nn] | .ldMemBcA => [0x02] | .incBc => [0x03]
  | .incB => [0x04] | .decB => [0x05] | .ldBN n => [0x06, n] | .rlca => [0x07]
  | .ldMemNnSp nn => [0x08, loByte nn, hiByte nn] | .addHlBc => [0x09] | .ldAMemBc => [0x0A] | .decBc => [0x0B]
  | .incC => [0x0C] | .decC => [0x0D] | .ldCN n => [0x0E, n] | .rrca => [0x0F]
  | .stop => [0x10, 0x00] | .ldDeNn nn => [0x11, loByte nn, hiByte nn] | .ldMemDeA => [0x12] | .incDe => [0x13]
  | .incD => [0x14] | .decD => [0x15] | .ldDN n => [0x16, n] | .rla => [0x17] | .jrE8 e => [0x18, e]
  | .addHlDe => [0x19] | .ldAMemDe => [0x1A] | .decDe => [0x1B] | .incE => [0x1C] | .decE => [0x1D]
  | .ldEN n => [0x1E, n] | .rra => [0x1F]
  | .jrNzE8 e => [0x20, e] | .ldHlNn nn => [0x21, loByte nn, hiByte nn] | .ldMemHlIncA => [0x22] | .incHl => [0x23]
  | .incH => [0x24] | .decH => [0x25] | .ldHN n => [0x26, n] | .daa => [0x27] | .jrZE8 e => [0x28, e]
  | .addHlHl => [0x29] | .ldAMemHlInc => [0x2A] | .decHl => [0x2B] | .incL => [0x2C] | .decL => [0x2D]
  | .ldLN n => [0x2E, n] | .cpl => [0x2F]
  | .jrNcE8 e => [0x30, e] | .ldSpNn nn => [0x31, loByte nn, hiByte nn] | .ldMemHlDecA => [0x32] | .incSp => [0x33]
  | .incMemHl => [0x34] | .decMemHl => [0x35] | .ldMemHlN n => [0x36, n] | .scf => [0x37] | .jrCE8 e => [0x38, e]
  | .addHlSp => [0x39] | .ldAMemHlDec => [0x3A] | .decSp => [0x3B] | .incA => [0x3C] | .decA => [0x3D]
  | .ldAN n => [0x3E, n] | .ccf => [0x3F]
  | .ldBB => [0x40] | .ldBC => [0x41] | .ldBD => [0x42] | .ldBE => [0x43] | .ldBH => [0x44] | .ldBL => [0x45]
  | .ldBMemHl => [0x46] | .ldBA => [0x47] | .ldCB => [0x48] | .ldCC => [0x49] | .ldCD => [0x4A] | .ldCE => [0x4B]
  | .ldCH => [0x4C] | .ldCL => [0x4D] | .ldCMemHl => [0x4E] | .ldCA => [0x4F]
  | .ldDB => [0x50] | .ldDC => [0x51] | .ldDD => [0x52] | .ldDE => [0x53] | .ldDH => [0x54] | .ldDL => [0x55]
  | .ldDMemHl => [0x56] | .ldDA => [0x57] | .ldEB => [0x58] | .ldEC => [0x59] | .ldED => [0x5A] | .ldEE => [0x5B]
  | .ldEH => [0x5C] | .ldEL => [0x5D] | .ldEMemHl => [0x5E] | .ldEA => [0x5F]
  | .ldHB => [0x60] | .ldHC => [0x61] | .ldHD => [0x62] | .ldHE => [0x63] | .ldHH => [0x64] | .ldHL => [0x65]
  | .ldHMemHl => [0x66] | .ldHA => [0x67] | .ldLB => [0x68] | .ldLC => [0x69] | .ldLD => [0x6A] | .ldLE => [0x6B]
  | .ldLH => [0x6C] | .ldLL => [0x6D] | .ldLMemHl => [0x6E] | .ldLA => [0x6F]
  | .ldMemHlB => [0x70] | .ldMemHlC => [0x71] | .ldMemHlD => [0x72] | .ldMemHlE => [0x73] | .ldMemHlH => [0x74]
  | .ldMemHlL => [0x75] | .halt => [0x76] | .ldMemHlA => [0x77] | .ldAB => [0x78] | .ldAC => [0x79] | .ldAD => [0x7A]
  | .ldAE => [0x7B] | .ldAH => [0x7C] | .ldAL => [0x7D] | .ldAMemHl => [0x7E] | .ldAA => [0x7F]
  | .addAB => [0x80] | .addAC => [0x81] | .addAD => [0x82] | .addAE => [0x83] | .addAH => [0x84] | .addAL => [0x85]
  | .addAMemHl => [0x86] | .addAA => [0x87] | .adcAB => [0x88] | .adcAC => [0x89] | .adcAD => [0x8A]
  | .adcAE => [0x8B] | .adcAH => [0x8C] | .adcAL => [0x8D] | .adcAMemHl => [0x8E] | .adcAA => [0x8F]
  | .subB => [0x90] | .subC => [0x91] | .subD => [0x92] | .subE => [0x93] | .subH => [0x94] | .subL => [0x95]
  | .subMemHl => [0x96] | .subA => [0x97] | .sbcAB => [0x98] | .sbcAC => [0x99] | .sbcAD => [0x9A] | .sbcAE => [0x9B]
  | .sbcAH => [0x9C] | .sbcAL => [0x9D] | .sbcAMemHl => [0x9E] | .sbcAA => [0x9F]
  | .andB => [0xA0] | .andC => [0xA1] | .andD => [0xA2] | .andE => [0xA3] | .andH => [0xA4] | .andL => [0xA5]
  | .andMemHl => [0xA6] | .andA => [0xA7] | .xorB => [0xA8] | .xorC => [0xA9] | .xorD => [0xAA] | .xorE => [0xAB]
  | .xorH => [0xAC] | .xorL => [0xAD] | .xorMemHl => [0xAE] | .xorA => [0xAF]
  | .orB => [0xB0] | .orC => [0xB1] | .orD => [0xB2] | .orE => [0xB3] | .orH => [0xB4] | .orL => [0xB5]
  | .orMemHl => [0xB6] | .orA => [0xB7] | .cpB => [0xB8] | .cpC => [0xB9] | .cpD => [0xBA] | .cpE => [0xBB]
  | .cpH => [0xBC] | .cpL => [0xBD] | .cpMemHl => [0xBE] | .cpA => [0xBF]
  | .retNz => [0xC0] | .popBc => [0xC1] | .jpNzNn nn => [0xC2, loByte nn, hiByte nn]
  | .jpNn nn => [0xC3, loByte nn, hiByte nn] | .callNzNn nn => [0xC4, loByte nn, hiByte nn] | .pushBc => [0xC5]
  | .addAN n => [0xC6, n] | .rst00 => [0xC7] | .retZ => [0xC8] | .ret => [0xC9]
  | .jpZNn nn => [0xCA, loByte nn, hiByte nn] | .prefixCb c => [0xCB, c]
  | .callZNn nn => [0xCC, loByte nn, hiByte nn] | .callNn nn => [0xCD, loByte nn, hiByte nn] | .adcAN n => [0xCE, n]
  | .rst08 => [0xCF]
  | .retNc => [0xD0] | .popDe => [0xD1] | .jpNcNn nn => [0xD2, loByte nn, hiByte nn] | .undefinedD3 => [0xD3]
  | .callNcNn nn => [0xD4, loByte nn, hiByte nn] | .pushDe => [0xD5] | .subN n => [0xD6, n] | .rst10 => [0xD7]
  | .retC => [0xD8] | .reti => [0xD9] | .jpCNn nn => [0xDA, loByte nn, hiByte nn] | .undefinedDB => [0xDB]
  | .callCNn nn => [0xDC, loByte nn, hiByte nn] | .undefinedDD => [0xDD] | .sbcAN n => [0xDE, n] | .rst18 => [0xDF]
  | .ldhMemNA n => [0xE0, n] | .popHl => [0xE1] | .ldhMemCA => [0xE2] | .undefinedE3 => [0xE3]
  | .undefinedE4 => [0xE4] | .pushHl => [0xE5] | .andN n => [0xE6, n] | .rst20 => [0xE7] | .addSpE8 e => [0xE8, e]
  | .jpHl => [0xE9] | .ldMemNnA nn => [0xEA, loByte nn, hiByte nn] | .undefinedEB => [0xEB] | .undefinedEC => [0xEC]
  | .undefinedED => [0xED] | .xorN n => [0xEE, n] | .rst28 => [0xEF]
  | .ldhAMemN n => [0xF0, n] | .popAf => [0xF1] | .ldhAMemC => [0xF2] | .di => [0xF3] | .undefinedF4 => [0xF4]
  | .pushAf => [0xF5] | .orN n => [0xF6, n] | .rst30 => [0xF7] | .ldHlSpE8 e => [0xF8, e] | .ldSpHl => [0xF9]
  | .ldAMemNn nn => [0xFA, loByte nn, hiByte nn] | .ei => [0xFB] | .undefinedFC => [0xFC] | .undefinedFD => [0xFD]
  | .cpN n => [0xFE, n] | .rst38 => [0xFF]
  | .rlcB => [0xCB, 0x00] | .rlcC => [0xCB, 0x01] | .rlcD => [0xCB, 0x02] | .rlcE => [0xCB, 0x03]
  | .rlcH => [0xCB, 0x04] | .rlcL => [0xCB, 0x05] | .rlcMemHl => [0xCB, 0x06] | .rlcA => [0xCB, 0x07]
  | .rrcB => [0xCB, 0x08] | .rrcC => [0xCB, 0x09] | .rrcD => [0xCB, 0x0A] | .rrcE => [0xCB, 0x0B]
  | .rrcH => [0xCB, 0x0C] | .rrcL => [0xCB, 0x0D] | .rrcMemHl => [0xCB, 0x0E] | .rrcA => [0xCB, 0x0F]
  | .rlB => [0xCB, 0x10] | .rlC => [0xCB, 0x11] | .rlD => [0xCB, 0x12] | .rlE => [0xCB, 0x13] | .rlH => [0xCB, 0x14]
  | .rlL => [0xCB, 0x15] | .rlMemHl => [0xCB, 0x16] | .rlA => [0xCB, 0x17] | .rrB => [0xCB, 0x18]
  | .rrC => [0xCB, 0x19] | .rrD => [0xCB, 0x1A] | .rrE => [0xCB, 0x1B] | .rrH => [0xCB, 0x1C] | .rrL => [0xCB, 0x1D]
  | .rrMemHl => [0xCB, 0x1E] | .rrA => [0xCB, 0x1F]
  | .slaB => [0xCB, 0x20] | .slaC => [0xCB, 0x21] | .slaD => [0xCB, 0x22] | .slaE => [0xCB, 0x23]
  | .slaH => [0xCB, 0x24] | .slaL => [0xCB, 0x25] | .slaMemHl => [0xCB, 0x26] | .slaA => [0xCB, 0x27]
  | .sraB => [0xCB, 0x28] | .sraC => [0xCB, 0x29] | .sraD => [0xCB, 0x2A] | .sraE => [0xCB, 0x2B]
  | .sraH => [0xCB, 0x2C] | .sraL => [0xCB, 0x2D] | .sraMemHl => [0xCB, 0x2E] | .sraA => [0xCB, 0x2F]
  | .swapB => [0xCB, 0x30] | .swapC => [0xCB, 0x31] | .swapD => [0xCB, 0x32] | .swapE => [0xCB, 0x33]
  | .swapH => [0xCB, 0x34] | .swapL => [0xCB, 0x35] | .swapMemHl => [0xCB, 0x36] | .swapA => [0xCB, 0x37]
  | .srlB => [0xCB, 0x38] | .srlC => [0xCB, 0x39] | .srlD => [0xCB, 0x3A] | .srlE => [0xCB, 0x3B]
  | .srlH => [0xCB, 0x3C] | .srlL => [0xCB, 0x3D] | .srlMemHl => [0xCB, 0x3E] | .srlA => [0xCB, 0x3F]
  | .bit0B => [0xCB, 0x40] | .bit0C => [0xCB, 0x41] | .bit0D => [0xCB, 0x42] | .bit0E => [0xCB, 0x43]
  | .bit0H => [0xCB, 0x44] | .bit0L => [0xCB, 0x45] | .bit0MemHl => [0xCB, 0x46] | .bit0A => [0xCB, 0x47]
  | .bit1B => [0xCB, 0x48] | .bit1C => [0xCB, 0x49] | .bit1D => [0xCB, 0x4A] | .bit1E => [0xCB, 0x4B]
  | .bit1H => [0xCB, 0x4C] | .bit1L => [0xCB, 0x4D] | .bit1MemHl => [0xCB, 0x4E] | .bit1A => [0xCB, 0x4F]
  | .bit2B => [0xCB, 0x50] | .bit2C => [0xCB, 0x51] | .bit2D => [0xCB, 0x52] | .bit2E => [0xCB, 0x53]
  | .bit2H => [0xCB, 0x54] | .bit2L => [0xCB, 0x55] | .bit2MemHl => [0xCB, 0x56] | .bit2A => [0xCB, 0x57]
  | .bit3B => [0xCB, 0x58] | .bit3C => [0xCB, 0x59] | .bit3D => [0xCB, 0x5A] | .bit3E => [0xCB, 0x5B]
  | .bit3H => [0xCB, 0x5C] | .bit3L => [0xCB, 0x5D] | .bit3MemHl => [0xCB, 0x5E] | .bit3A => [0xCB, 0x5F]
  | .bit4B => [0xCB, 0x60] | .bit4C => [0xCB, 0x61] | .bit4D => [0xCB, 0x62] | .bit4E => [0xCB, 0x63]
  | .bit4H => [0xCB, 0x64] | .bit4L => [0xCB, 0x65] | .bit4MemHl => [0xCB, 0x66] | .bit4A => [0xCB, 0x67]
  | .bit5B => [0xCB, 0x68] | .bit5C => [0xCB, 0x69] | .bit5D => [0xCB, 0x6A] | .bit5E => [0xCB, 0x6B]
  | .bit5H => [0xCB, 0x6C] | .bit5L => [0xCB, 0x6D] | .bit5MemHl => [0xCB, 0x6E] | .bit5A => [0xCB, 0x6F]
  | .bit6B => [0xCB, 0x70] | .bit6C => [0xCB, 0x71] | .bit6D => [0xCB, 0x72] | .bit6E => [0xCB, 0x73]
  | .bit6H => [0xCB, 0x74] | .bit6L => [0xCB, 0x75] | .bit6MemHl => [0xCB, 0x76] | .bit6A => [0xCB, 0x77]
  | .bit7B => [0xCB, 0x78] | .bit7C => [0xCB, 0x79] | .bit7D => [0xCB, 0x7A] | .bit7E => [0xCB, 0x7B]
  | .bit7H => [0xCB, 0x7C] | .bit7L => [0xCB, 0x7D] | .bit7MemHl => [0xCB, 0x7E] | .bit7A => [0xCB, 0x7F]
  | .res0B => [0xCB, 0x80] | .res0C => [0xCB, 0x81] | .res0D => [0xCB, 0x82] | .res0E => [0xCB, 0x83]
  | .res0H => [0xCB, 0x84] | .res0L => [0xCB, 0x85] | .res0MemHl => [0xCB, 0x86] | .res0A => [0xCB, 0x87]
  | .res1B => [0xCB, 0x88] | .res1C => [0xCB, 0x89] | .res1D => [0xCB, 0x8A] | .res1E => [0xCB, 0x8B]
  | .res1H => [0xCB, 0x8C] | .res1L => [0xCB, 0x8D] | .res1MemHl => [0xCB, 0x8E] | .res1A => [0xCB, 0x8F]
  | .res2B => [0xCB, 0x90] | .res2C => [0xCB, 0x91] | .res2D => [0xCB, 0x92] | .res2E => [0xCB, 0x93]
  | .res2H => [0xCB, 0x94] | .res2L => [0xCB, 0x95] | .res2MemHl => [0xCB, 0x96] | .res2A => [0xCB, 0x97]
  | .res3B => [0xCB, 0x98] | .res3C => [0xCB, 0x99] | .res3D => [0xCB, 0x9A] | .res3E => [0xCB, 0x9B]
  | .res3H => [0xCB, 0x9C] | .res3L => [0xCB, 0x9D] | .res3MemHl => [0xCB, 0x9E] | .res3A => [0xCB, 0x9F]
  | .res4B => [0xCB, 0xA0] | .res4C => [0xCB, 0xA1] | .res4D => [0xCB, 0xA2] | .res4E => [0xCB, 0xA3]
  | .res4H => [0xCB, 0xA4] | .res4L => [0xCB, 0xA5] | .res4MemHl => [0xCB, 0xA6] | .res4A => [0xCB, 0xA7]
  | .res5B => [0xCB, 0xA8] | .res5C => [0xCB, 0xA9] | .res5D => [0xCB, 0xAA] | .res5E => [0xCB, 0xAB]
  | .res5H => [0xCB, 0xAC] | .res5L => [0xCB, 0xAD] | .res5MemHl => [0xCB, 0xAE] | .res5A => [0xCB, 0xAF]
  | .res6B => [0xCB, 0xB0] | .res6C => [0xCB, 0xB1] | .res6D => [0xCB, 0xB2] | .res6E => [0xCB, 0xB3]
  | .res6H => [0xCB, 0xB4] | .res6L => [0xCB, 0xB5] | .res6MemHl => [0xCB, 0xB6] | .res6A => [0xCB, 0xB7]
  | .res7B => [0xCB, 0xB8] | .res7C => [0xCB, 0xB9] | .res7D => [0xCB, 0xBA] | .res7E => [0xCB, 0xBB]
  | .res7H => [0xCB, 0xBC] | .res7L => [0xCB, 0xBD] | .res7MemHl => [0xCB, 0xBE] | .res7A => [0xCB, 0xBF]
  | .set0B => [0xCB, 0xC0] | .set0C => [0xCB, 0xC1] | .set0D => [0xCB, 0xC2] | .set0E => [0xCB, 0xC3]
  | .set0H => [0xCB, 0xC4] | .set0L => [0xCB, 0xC5] | .set0MemHl => [0xCB, 0xC6] | .set0A => [0xCB, 0xC7]
  | .set1B => [0xCB, 0xC8] | .set1C => [0xCB, 0xC9] | .set1D => [0xCB, 0xCA] | .set1E => [0xCB, 0xCB]
  | .set1H => [0xCB, 0xCC] | .set1L => [0xCB, 0xCD] | .set1MemHl => [0xCB, 0xCE] | .set1A => [0xCB, 0xCF]
  | .set2B => [0xCB, 0xD0] | .set2C => [0xCB, 0xD1] | .set2D => [0xCB, 0xD2] | .set2E => [0xCB, 0xD3]
  | .set2H => [0xCB, 0xD4] | .set2L => [0xCB, 0xD5] | .set2MemHl => [0xCB, 0xD6] | .set2A => [0xCB, 0xD7]
  | .set3B => [0xCB, 0xD8] | .set3C => [0xCB, 0xD9] | .set3D => [0xCB, 0xDA] | .set3E => [0xCB, 0xDB]
  | .set3H => [0xCB, 0xDC] | .set3L => [0xCB, 0xDD] | .set3MemHl => [0xCB, 0xDE] | .set3A => [0xCB, 0xDF]
  | .set4B => [0xCB, 0xE0] | .set4C => [0xCB, 0xE1] | .set4D => [0xCB, 0xE2] | .set4E => [0xCB, 0xE3]
  | .set4H => [0xCB, 0xE4] | .set4L => [0xCB, 0xE5] | .set4MemHl => [0xCB, 0xE6] | .set4A => [0xCB, 0xE7]
  | .set5B => [0xCB, 0xE8] | .set5C => [0xCB, 0xE9] | .set5D => [0xCB, 0xEA] | .set5E => [0xCB, 0xEB]
  | .set5H => [0xCB, 0xEC] | .set5L => [0xCB, 0xED] | .set5MemHl => [0xCB, 0xEE] | .set5A => [0xCB, 0xEF]
  | .set6B => [0xCB, 0xF0] | .set6C => [0xCB, 0xF1] | .set6D => [0xCB, 0xF2] | .set6E => [0xCB, 0xF3]
  | .set6H => [0xCB, 0xF4] | .set6L => [0xCB, 0xF5] | .set6MemHl => [0xCB, 0xF6] | .set6A => [0xCB, 0xF7]
  | .set7B => [0xCB, 0xF8] | .set7C => [0xCB, 0xF9] | .set7D => [0xCB, 0xFA] | .set7E => [0xCB, 0xFB]
  | .set7H => [0xCB, 0xFC] | .set7L => [0xCB, 0xFD] | .set7MemHl => [0xCB, 0xFE] | .set7A => [0xCB, 0xFF]

/-! ## A row of the opcode table as bytes in memory -/

/-- The three bytes, lowest address first, of an instruction whose `nbits` bits are `w`, zeros above them. The table
writes a CB row as one number whose HIGH byte is the prefix 0xCB, which is fetched first (R119); any other word is laid
out from its low byte up (log entry 12). -/
def tableBytes (nbits w : Nat) : List Byte :=
  let v := w % 2 ^ nbits
  if nbits = 16 ∧ v / 256 = 0xCB then [0xCB, BitVec.ofNat 8 v, 0]
  else [BitVec.ofNat 8 v, BitVec.ofNat 8 (v / 256), BitVec.ofNat 8 (v / 65536)]

/-- The instruction the decoder reads from a word of the opcode table. -/
def decodeTableWord (nbits w : Nat) : Option Instr :=
  match decode (tableBytes nbits w) with
  | .ok (i, _) => some i
  | .error _ => none

end Sys2Proof
end

