-- ==== Sys2Proof/Config.lean ====
section
/-! DEFINITION. The launch parameters of R7 and the free values the spec leaves open. A free value is an opaque
constant: nothing in Lean can evaluate it, so a claim proved about it holds whatever it is. -/

namespace Sys2Proof

/-- `P_BOOT_MODE` (R7): which of the two reset states of R421 and R422 the machine starts in. -/
inductive BootMode where
  | postBoot
  | bootRom
deriving DecidableEq, Repr

namespace Config

/-- The boot mode of `State.reset`. DESIGN CHOICE (log entry 1): the spec leaves `P_BOOT_MODE` to the launch. -/
def bootMode : BootMode := .postBoot

/-- `P_INIT_MEM` (R7, R55): what a byte of WRAM, VRAM, OAM or HRAM holds after a PostBoot reset, by address.
A free value (log entry 2). -/
opaque initMem : Nat → Byte

/-- `P_BOOT_ROM` (R7, R77): the 256-byte boot image, by offset. A free value (log entry 5). -/
opaque bootRomByte : Nat → Byte

/-- `P_CART` (R7, R79): the byte the cartridge answers on the n-th draw of a run. A free value (log entry 4). -/
opaque cartDraw : Nat → Byte

/-- `P_IO` (R7, R74): the byte the joypad, the serial port or the APU answers on the n-th draw of a run.
A free value (log entry 6). -/
opaque ioDraw : Nat → Byte

/-- `P_DMA_HIGH` (R7, R342): the byte a DMA from source page FE or FF copies on the n-th draw of a run.
A free value (log entry 7). -/
opaque dmaHighDraw : Nat → Byte

end Config

end Sys2Proof
end

