-- ==== Sys2Proof/Machine/State.lean ====
section
/-! DEFINITION. The machine's state as plain data: everything 10_state.md gives the block, and the environment it works
against (R7). `State.reset` is the state right after reset (R421 to R423). -/

namespace Sys2Proof.Machine

/-! ## CPU registers and latches (R20 to R31) -/

/-- The four flags of F (R23). F's low nibble "is permanently zero on writes and reads" (R22), so it is not stored
(log entry 18). -/
structure Flags where
  z : Bool
  n : Bool
  h : Bool
  c : Bool
deriving DecidableEq, Repr

/-- The programmer's registers (R20, R24, R25); the pairs are views of them (R21). -/
structure Regs where
  a : Byte
  f : Flags
  b : Byte
  c : Byte
  d : Byte
  e : Byte
  h : Byte
  l : Byte
  sp : Word
  pc : Word
deriving DecidableEq, Repr

/-- The CPU's control latches (R26 to R31). -/
structure Latches where
  ime : Bool
  imePending : Bool
  halted : Bool
  haltBug : Bool
  stopped : Bool
  locked : Bool
deriving DecidableEq, Repr

/-- The five interrupt lines, in order of priority (R283). -/
inductive IntLine where
  | vblank | stat | timer | serial | joypad
deriving DecidableEq, Repr

/-! ## Timer and DMA engine (R35 to R38, R45, R52, R53) -/

/-- The timer's registers and hidden state; DIV is the high byte of `sysCounter` (R35). -/
structure Timer where
  sysCounter : Word
  tima : Byte
  tma : Byte
  tac : BitVec 3
  signalPrev : Bool
  reloadCountdown : Nat
deriving DecidableEq, Repr

/-- The OAM DMA engine; `reg` is what FF46 reads back (R45). -/
structure Dma where
  reg : Byte
  active : Bool
  src : Word
  index : Nat
  sub : Nat
deriving DecidableEq, Repr

/-! ## PPU (R39 to R50, R54 to R57) -/

/-- The PPU's four modes (R54). -/
inductive PpuMode where
  | hblank | vblank | oamScan | pixelXfer
deriving DecidableEq, Repr

/-- The five states of the background fetcher (R54, R369). -/
inductive FetchState where
  | tileId | dataLo | dataHi | push | sleep
deriving DecidableEq, Repr

/-- A colour index, before the palette (R372). -/
abbrev Colour := BitVec 2

/-- A framebuffer shade: 0 white, 1 light gray, 2 dark gray, 3 black (R381). -/
abbrev Shade := BitVec 2

/-- One pixel of the sprite FIFO (R54). -/
structure ObjPixel where
  colour : Colour
  palette : Bool
  priority : Bool
deriving DecidableEq, Repr

/-- One selected sprite: its OAM index, its Y and X bytes as read at the scan, and whether it was fetched (R54). -/
structure Sprite where
  index : Nat
  y : Byte
  x : Byte
  fetched : Bool
deriving DecidableEq, Repr

/-- A 160×144 array of shades (R57), the shade of pixel (x, y) under the key 160·y + x. A pixel that is not listed is
white, and no white pixel is listed (log entry 20). -/
abbrev FrameBuffer := List (Nat × Shade)

/-- The PPU's registers (R39 to R50) and hidden state (R54), and the two framebuffers (R57). `statSel` is STAT bits
6:3; `ly` is LY. -/
structure Ppu where
  lcdc : Byte
  statSel : BitVec 4
  scy : Byte
  scx : Byte
  lyc : Byte
  bgp : Byte
  obp0 : Byte
  obp1 : Byte
  wy : Byte
  wx : Byte
  mode : PpuMode
  ly : Nat
  dot : Nat
  fetchState : FetchState
  fetchSub : Bool
  fetchTileX : BitVec 5
  tileId : Byte
  tileLo : Byte
  tileHi : Byte
  bgFifo : List Colour
  objFifo : List ObjPixel
  lx : Nat
  discard : Nat
  sprites : List Sprite
  spriteFetchLeft : Nat
  fetching : Nat
  wyTriggered : Bool
  windowActive : Bool
  windowUsedLine : Bool
  windowLine : Byte
  lycEqual : Bool
  drawFb : FrameBuffer
  visibleFb : FrameBuffer
deriving DecidableEq, Repr

/-! ## Memory and environment -/

/-- Bytes by address, in one canonical form: addresses strictly rising. An address that is not listed has no value
here; what a read of it gives is its reader's business (log entry 2). -/
abbrev Memory := List Host.Cell

/-- A request the collaborators make of the block (R302). -/
inductive ExtEvent where
  | joypadEdge
  | serialRequest
deriving DecidableEq, Repr

/-- What the block hands to its collaborators: a cartridge write (R79), a write to the joypad, serial port or APU
(R74), a frame for the frame sink (R384, R385). -/
inductive Output where
  | cartWrite (addr : Word) (v : Byte)
  | ioWrite (addr : Word) (v : Byte)
  | present (fb : FrameBuffer)
deriving DecidableEq, Repr

/-- The environment of R7 as data. `launch` is `P_BOOT_MODE`. `bootRom` and `cart` list the bytes that are known of
`P_BOOT_ROM` and of `P_CART`'s answers (log entries 4 and 5). `draws` counts the free values taken so far. `inputs`
is the schedule of the collaborators' requests, each with the T-cycles to wait after the one before it (log entry 8).
`outputs` is what the block has handed out, oldest first (log entry 9). -/
structure Env where
  launch : BootMode
  bootRom : Memory
  cart : Memory
  draws : Nat
  inputs : List (Nat × ExtEvent)
  outputs : List Output
deriving DecidableEq, Repr

/-- The state of the block (10_state.md). `mem` holds VRAM, WRAM, OAM and HRAM under their bus addresses (R55); `ifReg`
is IF[4:0] (R33), `ieReg` IE (R34). -/
structure State where
  regs : Regs
  latch : Latches
  cycles : BitVec 64
  ifReg : BitVec 5
  ieReg : Byte
  timer : Timer
  dma : Dma
  ppu : Ppu
  bootMapped : Bool
  mem : Memory
  env : Env
deriving DecidableEq, Repr

/-! ## Outcomes -/

/-- Why the machine can stop. There is no reason: "No SM83 instruction traps", and "a Lean model's instruction step
returns no error variant" (R280). -/
inductive Fault where
deriving DecidableEq, Repr

/-- Why an instruction can have no meaning. -/
inductive Refusal where
  /-- Raised by the dispatch for an instruction that has no meaning yet; safe. No arm raises it. -/
  | notModelled (mnemonic : String)
deriving DecidableEq, Repr

/-- The outcome of one instruction or one step. -/
abbrev Result := Host.Outcome State Fault Refusal

/-! ## Reset (R420 to R423) -/

/-- Every control latch is 0 at reset (R26 to R31, R423). -/
def Latches.reset : Latches :=
  { ime := false, imePending := false, halted := false, haltBug := false, stopped := false, locked := false }

/-- The CPU registers at reset: the post-boot values of R421, or zeros (R422). -/
def Regs.reset : BootMode → Regs
  | .postBoot =>
    { a := 0x01, f := { z := true, n := false, h := true, c := true }, b := 0x00, c := 0x13, d := 0x00, e := 0xD8,
      h := 0x01, l := 0x4D, sp := 0xFFFE, pc := 0x0100 }
  | .bootRom =>
    { a := 0, f := { z := false, n := false, h := false, c := false }, b := 0, c := 0, d := 0, e := 0, h := 0, l := 0,
      sp := 0, pc := 0 }

/-- The timer at reset (R35 to R38, R52). -/
def Timer.reset (m : BootMode) : Timer :=
  { sysCounter := match m with | .postBoot => 0xABCC | .bootRom => 0
    tima := 0, tma := 0, tac := 0, signalPrev := false, reloadCountdown := 0 }

/-- The DMA engine at reset (R45, R53). -/
def Dma.reset (m : BootMode) : Dma :=
  { reg := match m with | .postBoot => 0xFF | .bootRom => 0
    active := false, src := 0, index := 0, sub := 0 }

/-- The PPU at reset (R39 to R50, R54, R57). OBP0 and OBP1 after a PostBoot reset (log entry 3) and the latches
`discard`, `tileId`, `tileLo`, `tileHi` and `fetching` (log entry 13) are DESIGN CHOICES: the spec gives them no value. -/
def Ppu.reset (m : BootMode) : Ppu :=
  { lcdc := match m with | .postBoot => 0x91 | .bootRom => 0
    statSel := 0, scy := 0, scx := 0, lyc := 0
    bgp := match m with | .postBoot => 0xFC | .bootRom => 0
    obp0 := 0, obp1 := 0, wy := 0, wx := 0
    mode := match m with | .postBoot => .oamScan | .bootRom => .hblank
    ly := 0, dot := 0, fetchState := .tileId, fetchSub := false, fetchTileX := 0, tileId := 0, tileLo := 0, tileHi := 0
    bgFifo := [], objFifo := [], lx := 0, discard := 0, sprites := [], spriteFetchLeft := 0, fetching := 0
    wyTriggered := false, windowActive := false, windowUsedLine := false, windowLine := 0, lycEqual := true
    drawFb := [], visibleFb := [] }

/-- The environment at reset: nothing is known of the boot image and the cartridge, no request is scheduled (DESIGN
CHOICE, log entry 8), nothing was handed out. -/
def Env.reset (m : BootMode) : Env :=
  { launch := m, bootRom := [], cart := [], draws := 0, inputs := [], outputs := [] }

/-- The state right after a reset in the given mode (R421, R422). -/
def State.resetIn (m : BootMode) : State :=
  { regs := Regs.reset m
    latch := Latches.reset
    cycles := 0
    ifReg := match m with | .postBoot => 0x01 | .bootRom => 0
    ieReg := 0
    timer := Timer.reset m
    dma := Dma.reset m
    ppu := Ppu.reset m
    bootMapped := match m with | .postBoot => false | .bootRom => true
    mem := []
    env := Env.reset m }

/-- The machine right after reset, in the boot mode of the configuration (log entry 1). -/
def State.reset : State := State.resetIn Config.bootMode

end Sys2Proof.Machine
end

