-- ==== Sys2Proof/Machine/Operands.lean ====
section
/-! DEFINITION. The operand forms: registers, pairs, F as a byte, conditions (R20 to R25, R112 to R117), and the named
updates of one register. -/

namespace Sys2Proof.Machine

/-! ## Registers -/

/-- The 8-bit register of an `r` field (R112). -/
def Regs.get8 (r : Regs) : Reg8 → Byte
  | .b => r.b | .c => r.c | .d => r.d | .e => r.e | .h => r.h | .l => r.l | .a => r.a

/-- Write the 8-bit register of an `r` field (R112). -/
def Regs.set8 (r : Regs) (i : Reg8) (v : Byte) : Regs :=
  match i with
  | .b => { r with b := v }
  | .c => { r with c := v }
  | .d => { r with d := v }
  | .e => { r with e := v }
  | .h => { r with h := v }
  | .l => { r with l := v }
  | .a => { r with a := v }

/-- The byte F holds: the flags in bits 7 to 4, the low nibble 0 (R22, R23). -/
def Flags.toByte (f : Flags) : Byte :=
  (((BitVec.ofBool f.z ++ BitVec.ofBool f.n) ++ BitVec.ofBool f.h) ++ BitVec.ofBool f.c) ++ 0#4

/-- What a write of a byte to F stores: its bits 7 to 4 (R22). -/
def Flags.ofByte (v : Byte) : Flags :=
  { z := v.getLsbD 7, n := v.getLsbD 6, h := v.getLsbD 5, c := v.getLsbD 4 }

/-- A pair of a `dd` field, or SP (R21, R113). -/
def Regs.get16 (r : Regs) : Reg16 → Word
  | .bc => wordOf r.b r.c
  | .de => wordOf r.d r.e
  | .hl => wordOf r.h r.l
  | .sp => r.sp

/-- Write a pair of a `dd` field, or SP (R21, R113). -/
def Regs.set16 (r : Regs) (i : Reg16) (v : Word) : Regs :=
  match i with
  | .bc => { r with b := hiByte v, c := loByte v }
  | .de => { r with d := hiByte v, e := loByte v }
  | .hl => { r with h := hiByte v, l := loByte v }
  | .sp => { r with sp := v }

/-- A pair of a `qq` field (R21, R114); reading AF sees F's low nibble as 0 (R22). -/
def Regs.getStack (r : Regs) : StackReg → Word
  | .bc => wordOf r.b r.c
  | .de => wordOf r.d r.e
  | .hl => wordOf r.h r.l
  | .af => wordOf r.a r.f.toByte

/-- Write a pair of a `qq` field (R21, R114); writing AF drops the low nibble (R22, R154). -/
def Regs.setStack (r : Regs) (i : StackReg) (v : Word) : Regs :=
  match i with
  | .bc => { r with b := hiByte v, c := loByte v }
  | .de => { r with d := hiByte v, e := loByte v }
  | .hl => { r with h := hiByte v, l := loByte v }
  | .af => { r with a := hiByte v, f := Flags.ofByte (loByte v) }

/-- HL, the address register of the `(HL)` forms (R21). -/
def Regs.hl (r : Regs) : Word := wordOf r.h r.l

/-! ## Conditions -/

/-- Whether a condition holds of the flags (R115, R240). -/
def Flags.holds (f : Flags) : Cond → Bool
  | .nz => !f.z
  | .z => f.z
  | .nc => !f.c
  | .c => f.c

/-! ## Immediates and restart targets -/

/-- An `e8` immediate as a 16-bit value, `sext_16(e)` (R118). -/
def sext16 (e : Byte) : Word := e.signExtend 16

/-- The address of a high-page form, `0xFF00 + zext_16(n)` (R118). -/
def highPage (n : Byte) : Word := 0xFF00 + n.setWidth 16

/-- The target of RST, `zext_16(ttt) · 8` (R116). -/
def rstTarget (t : Oct) : Word := BitVec.ofNat 16 (8 * t.toNat)

/-! ## Named updates of the state -/

/-- Write one 8-bit register. -/
def State.setReg8 (i : Reg8) (v : Byte) (s : State) : State := { s with regs := s.regs.set8 i v }

/-- Write one pair of a `dd` field, or SP. -/
def State.setReg16 (i : Reg16) (v : Word) (s : State) : State := { s with regs := s.regs.set16 i v }

/-- Write one pair of a `qq` field. -/
def State.setStack (i : StackReg) (v : Word) (s : State) : State := { s with regs := s.regs.setStack i v }

/-- Write the four flags. -/
def State.setFlags (f : Flags) (s : State) : State := { s with regs := { s.regs with f := f } }

/-- Write PC. -/
def State.setPc (v : Word) (s : State) : State := { s with regs := { s.regs with pc := v } }

/-- Write SP. -/
def State.setSp (v : Word) (s : State) : State := { s with regs := { s.regs with sp := v } }

/-- Write the control latches. -/
def State.setLatch (l : Latches) (s : State) : State := { s with latch := l }

/-- Write IF[4:0]. -/
def State.setIf (v : BitVec 5) (s : State) : State := { s with ifReg := v }

/-- Replace the timer's state. -/
def State.setTimer (t : Timer) (s : State) : State := { s with timer := t }

/-- Replace the DMA engine's state. -/
def State.setDma (d : Dma) (s : State) : State := { s with dma := d }

/-- Replace the PPU's state. -/
def State.setPpu (p : Ppu) (s : State) : State := { s with ppu := p }

/-- Replace the environment. -/
def State.setEnv (e : Env) (s : State) : State := { s with env := e }

end Sys2Proof.Machine
end

