-- ==== Sys2Proof/Machine/Flags.lean ====
section
/-! DEFINITION. The arithmetic and its flags: the ALU law (R160), INC and DEC (R185, R187), DAA (R189), AddSpE (R200),
ADD HL (R201), the rotates and shifts (R210 to R229) and the bit operations (R230 to R235). Operands become numbers,
the result is computed exactly, and the flags compare it with its bounds. -/

namespace Sys2Proof.Machine

/-- `v[3:0]` as a number. -/
def nibble (v : Byte) : Nat := v.toNat % 16

/-- A carry as a number. -/
def carryNat (c : Bool) : Nat := if c then 1 else 0

/-- A result with the flags it sets. -/
structure AluOut where
  res : Byte
  flags : Flags
deriving DecidableEq, Repr

/-- The sum row of R160, with a carry in. -/
def aluSum (a v : Byte) (cin : Bool) : AluOut :=
  let res := BitVec.ofNat 8 (a.toNat + v.toNat + carryNat cin)
  { res := res
    flags := { z := decide (res = 0), n := false
               h := decide (nibble a + nibble v + carryNat cin > 0xF)
               c := decide (a.toNat + v.toNat + carryNat cin > 0xFF) } }

/-- The difference row of R160, with a borrow in. -/
def aluDiff (a v : Byte) (cin : Bool) : AluOut :=
  let res := BitVec.ofInt 8 ((a.toNat : Int) - v.toNat - carryNat cin)
  { res := res
    flags := { z := decide (res = 0), n := true
               h := decide (nibble a < nibble v + carryNat cin)
               c := decide (a.toNat < v.toNat + carryNat cin) } }

/-- A logical row of R160: Z from the result, N = 0, Cy = 0, Hf as given. -/
def aluLogic (res : Byte) (h : Bool) : AluOut :=
  { res := res, flags := { z := decide (res = 0), n := false, h := h, c := false } }

/-- `Alu(op, a, v, cin)`, the 8-bit ALU law (R160). CP computes as SUB does; its caller discards the result. -/
def alu (op : AluOp) (a v : Byte) (cin : Bool) : AluOut :=
  match op with
  | .add => aluSum a v false
  | .adc => aluSum a v cin
  | .sub => aluDiff a v false
  | .sbc => aluDiff a v cin
  | .and => aluLogic (a &&& v) true
  | .xor => aluLogic (a ^^^ v) false
  | .or => aluLogic (a ||| v) false
  | .cp => aluDiff a v false

/-- INC of a byte (R185, R186): Cy is kept. -/
def incByte (v : Byte) (f : Flags) : AluOut :=
  { res := v + 1, flags := { z := decide (v + 1 = 0), n := false, h := decide (nibble v = 0xF), c := f.c } }

/-- DEC of a byte (R187, R188): Cy is kept. -/
def decByte (v : Byte) (f : Flags) : AluOut :=
  { res := v - 1, flags := { z := decide (v - 1 = 0), n := true, h := decide (nibble v = 0x0), c := f.c } }

/-- The correction DAA adds or subtracts (R189). -/
def daaCorrection (a : Byte) (f : Flags) : Byte :=
  (if f.h || (!f.n && decide (nibble a > 9)) then 0x06 else 0x00) |||
    (if f.c || (!f.n && decide (a.toNat > 0x99)) then 0x60 else 0x00)

/-- DAA (R189): N is kept. -/
def daaByte (a : Byte) (f : Flags) : AluOut :=
  let res := if f.n then a - daaCorrection a f else a + daaCorrection a f
  { res := res
    flags := { z := decide (res = 0), n := f.n, h := false, c := f.c || (!f.n && decide (a.toNat > 0x99)) } }

/-- The sum of `AddSpE(sp, e)` (R200). -/
def addSpE (sp : Word) (e : Byte) : Word := sp + sext16 e

/-- The flags of ADD SP,e8 and LD HL,SP+e8: Z = N = 0, Hf and Cy of the unsigned low-byte addition (R200). -/
def addSpEFlags (sp : Word) (e : Byte) : Flags :=
  { z := false, n := false
    h := decide (sp.toNat % 16 + nibble e > 0xF)
    c := decide (sp.toNat % 256 + e.toNat > 0xFF) }

/-- The flags of ADD HL,rr (R201): Z is kept. -/
def addHlFlags (a v : Word) (f : Flags) : Flags :=
  { z := f.z, n := false
    h := decide (a.toNat % 4096 + v.toNat % 4096 > 0xFFF)
    c := decide (a.toNat + v.toNat > 0xFFFF) }

/-- The byte with only bit 0 set as the flag says. -/
def bit0 (c : Bool) : Byte := (BitVec.ofBool c).setWidth 8

/-- The result of a rotate or shift, with the old Cy for RL and RR (R210 to R229). -/
def shiftResult (op : ShiftOp) (v : Byte) (cin : Bool) : Byte :=
  match op with
  | .rlc => (v <<< 1) ||| bit0 (v.getLsbD 7)
  | .rrc => (v >>> 1) ||| (bit0 (v.getLsbD 0) <<< 7)
  | .rl => (v <<< 1) ||| bit0 cin
  | .rr => (v >>> 1) ||| (bit0 cin <<< 7)
  | .sla => v <<< 1
  | .sra => (v >>> 1) ||| (v &&& 0x80)
  | .swap => (v <<< 4) ||| (v >>> 4)
  | .srl => v >>> 1

/-- The bit a rotate or shift moves out to Cy; SWAP clears Cy (R210 to R229). -/
def shiftCarry (op : ShiftOp) (v : Byte) : Bool :=
  match op with
  | .rlc | .rl | .sla => v.getLsbD 7
  | .rrc | .rr | .sra | .srl => v.getLsbD 0
  | .swap => false

/-- A CB rotate or shift: "CB forms set Z from result", N = Hf = 0 (R214 to R229). -/
def shiftByte (op : ShiftOp) (v : Byte) (f : Flags) : AluOut :=
  let res := shiftResult op v f.c
  { res := res, flags := { z := decide (res = 0), n := false, h := false, c := shiftCarry op v } }

/-- A rotate of A in the main table: "main forms force Z=0" (R210 to R213). -/
def rotateAByte (op : ShiftOp) (v : Byte) (f : Flags) : AluOut :=
  { res := shiftResult op v f.c, flags := { z := false, n := false, h := false, c := shiftCarry op v } }

/-- The flags of BIT: "Z=!bit, N=0, H=1, C preserved" (R230, R231). -/
def bitFlags (b : Oct) (v : Byte) (f : Flags) : Flags :=
  { z := !v.getLsbD b.toNat, n := false, h := true, c := f.c }

/-- RES: `v & ~(1 << b)` (R232, R233). -/
def resByte (b : Oct) (v : Byte) : Byte := v &&& ~~~((1 : Byte) <<< b.toNat)

/-- SET: `v | (1 << b)` (R234, R235). -/
def setByte (b : Oct) (v : Byte) : Byte := v ||| ((1 : Byte) <<< b.toNat)

end Sys2Proof.Machine
end

