-- ==== Sys2Proof/Machine/Interrupts.lean ====
section
/-! DEFINITION. The interrupt controller: requests, the pending set, selection and vectors (R283 to R289, R301). -/

namespace Sys2Proof.Machine

/-- The bit of IF and IE that belongs to a line (R283). -/
def IntLine.bit : IntLine → Nat
  | .vblank => 0 | .stat => 1 | .timer => 2 | .serial => 3 | .joypad => 4

/-- IF with one line's bit set. -/
def IntLine.mask (n : IntLine) : BitVec 5 := (1 : BitVec 5) <<< n.bit

/-- `RequestInterrupt(n)`: `IF <- IF | (1 << n)` (R301). -/
def requestInterrupt (n : IntLine) (s : State) : State := s.setIf (s.ifReg ||| n.mask)

/-- The pending set `IE & IF & 0x1F` (R285). -/
def pending (s : State) : BitVec 5 := s.ieReg.setWidth 5 &&& s.ifReg

/-- The lowest-numbered bit of a pending set, if there is one (R285). -/
def lowestLine (p : BitVec 5) : Option IntLine :=
  if p.getLsbD 0 then some .vblank
  else if p.getLsbD 1 then some .stat
  else if p.getLsbD 2 then some .timer
  else if p.getLsbD 3 then some .serial
  else if p.getLsbD 4 then some .joypad
  else none

/-- The vector of a line, `0x40 + 8·n` (R289). -/
def IntLine.vector (n : IntLine) : Word := BitVec.ofNat 16 (0x40 + 8 * n.bit)

end Sys2Proof.Machine
end

