-- ==== Sys2Proof/Machine/Memory.lean ====
section
/-! DEFINITION. Memories and framebuffers as canonical lists, and the block's own storage: VRAM, WRAM, OAM and HRAM
(R55, R71, R75). -/

namespace Sys2Proof.Machine

/-! ## Bytes by address -/

/-- The byte listed at an address, if there is one. -/
def Memory.read : Memory → Nat → Option Byte
  | [], _ => none
  | (k, v) :: rest, a => if k = a then some v else Memory.read rest a

/-- Store a byte at an address, keeping the addresses rising. -/
def Memory.write : Memory → Nat → Byte → Memory
  | [], a, v => [(a, v)]
  | (k, w) :: rest, a, v =>
    if a < k then (a, v) :: (k, w) :: rest
    else if a = k then (a, v) :: rest
    else (k, w) :: Memory.write rest a v

/-- The memory with an address no longer listed. -/
def Memory.erase : Memory → Nat → Memory
  | [], _ => []
  | (k, v) :: rest, a => if k = a then Memory.erase rest a else (k, v) :: Memory.erase rest a

/-- The canonical form of the addresses: strictly rising. -/
abbrev Memory.wf (m : Memory) : Prop := m.Pairwise (fun p q => p.1 < q.1)

/-! ## Framebuffers (R57) -/

/-- The shade of a pixel; a pixel that is not listed is white. -/
def FrameBuffer.pixel : FrameBuffer → Nat → Shade
  | [], _ => 0
  | (k, v) :: rest, i => if k = i then v else FrameBuffer.pixel rest i

/-- The framebuffer with one pixel made white. -/
def FrameBuffer.erase : FrameBuffer → Nat → FrameBuffer
  | [], _ => []
  | (k, v) :: rest, i => if k = i then FrameBuffer.erase rest i else (k, v) :: FrameBuffer.erase rest i

/-- The framebuffer with one pixel of a shade that is not white. -/
def FrameBuffer.insert : FrameBuffer → Nat → Shade → FrameBuffer
  | [], i, v => [(i, v)]
  | (k, w) :: rest, i, v =>
    if i < k then (i, v) :: (k, w) :: rest
    else if i = k then (i, v) :: rest
    else (k, w) :: FrameBuffer.insert rest i v

/-- Store the shade of a pixel; a white pixel is not listed. -/
def FrameBuffer.write (fb : FrameBuffer) (i : Nat) (v : Shade) : FrameBuffer :=
  if v = 0 then FrameBuffer.erase fb i else FrameBuffer.insert fb i v

/-- The canonical form: pixel numbers strictly rising, no white pixel listed. -/
abbrev FrameBuffer.wf (fb : FrameBuffer) : Prop :=
  fb.Pairwise (fun p q => p.1 < q.1) ∧ ∀ p ∈ fb, p.2 ≠ 0

/-! ## The block's storage -/

/-- What a byte of VRAM, WRAM, OAM or HRAM reads as before anything has written it: a free value of `P_INIT_MEM` after a
PostBoot reset, zero after a BootRom reset (R55; log entry 2). -/
def unwrittenByte (s : State) (a : Nat) : Byte :=
  match s.env.launch with
  | .postBoot => Config.initMem a
  | .bootRom => 0

/-- The byte VRAM, WRAM, OAM or HRAM holds at its bus address (R75). -/
def ramRead (s : State) (a : Nat) : Byte := (Memory.read s.mem a).getD (unwrittenByte s a)

/-- Store a byte in the storage's canonical form. After a BootRom reset, where an unlisted byte is zero, no zero is
listed; after a PostBoot reset an unlisted byte is free, and every byte written is listed (log entry 2). -/
def Memory.store (m : Memory) (launch : BootMode) (a : Nat) (v : Byte) : Memory :=
  match launch with
  | .postBoot => Memory.write m a v
  | .bootRom => if v = 0 then Memory.erase m a else Memory.write m a v

/-- Store a byte in VRAM, WRAM, OAM or HRAM at its bus address (R75). -/
def ramWrite (a : Nat) (v : Byte) (s : State) : State := { s with mem := Memory.store s.mem s.env.launch a v }

/-- The addresses of the block's storage (R55). -/
abbrev isRam (a : Nat) : Prop :=
  (0x8000 ≤ a ∧ a ≤ 0x9FFF) ∨ (0xC000 ≤ a ∧ a ≤ 0xDFFF) ∨ (0xFE00 ≤ a ∧ a ≤ 0xFE9F) ∨ (0xFF80 ≤ a ∧ a ≤ 0xFFFE)

end Sys2Proof.Machine
end

