-- ==== Sys2Proof/Machine/Ppu.lean ====
section
/-! DEFINITION. The PPU scanline pipeline, dot by dot (R360 to R392), and the LCD switch (R385, R386). The fetchers read
VRAM and OAM directly (R388). -/

namespace Sys2Proof.Machine

/-! ## Fields of the registers (R39, R40) -/

/-- The number a mode reads as in STAT[1:0] (R54). -/
def PpuMode.bits : PpuMode → BitVec 2
  | .hblank => 0 | .vblank => 1 | .oamScan => 2 | .pixelXfer => 3

/-- LCDC bit 7: the LCD is on. -/
def Ppu.lcdOn (p : Ppu) : Bool := p.lcdc.getLsbD 7

/-- The height of a sprite, by LCDC bit 2 (R366). -/
def Ppu.objHeight (p : Ppu) : Nat := if p.lcdc.getLsbD 2 then 16 else 8

/-- Whether the STAT selector of a mode's entry is set: bit 3 mode 0, bit 4 mode 1, bit 5 mode 2 (R361). -/
def Ppu.selects (p : Ppu) : PpuMode → Bool
  | .hblank => p.statSel.getLsbD 0
  | .vblank => p.statSel.getLsbD 1
  | .oamScan => p.statSel.getLsbD 2
  | .pixelXfer => false

/-- What a read of STAT returns (R40): bit 7 as 1, the selectors, the coincidence flag, the mode. -/
def Ppu.stat (p : Ppu) : Byte :=
  ((1#1 ++ p.statSel) ++ BitVec.ofBool p.lycEqual) ++ p.mode.bits

/-! ## Modes (R361, R364, R365) -/

/-- `EnterMode(m)` (R361): a selected entry requests line 1 (R364). -/
def enterMode (m : PpuMode) (s : State) : State :=
  let s' := s.setPpu { s.ppu with mode := m }
  if s.ppu.selects m then requestInterrupt .stat s' else s'

/-- `LycUpdate()` (R365). -/
def lycUpdate (s : State) : State :=
  let eq := decide (s.ppu.ly = s.ppu.lyc.toNat)
  let s' := s.setPpu { s.ppu with lycEqual := eq }
  if eq && !s.ppu.lycEqual && s.ppu.statSel.getLsbD 3 then requestInterrupt .stat s' else s'

/-! ## Mode 2: OAM scan (R366) -/

/-- Byte `k` of OAM entry `i` (R55). -/
def oamByte (s : State) (i k : Nat) : Byte := ramRead s (0xFE00 + 4 * i + k)

/-- Whether a sprite with this Y byte is on line `ly`, in integers (R366). -/
def onLine (y : Byte) (ly h : Nat) : Bool := decide (y.toNat ≤ ly + 16) && decide (ly + 16 < y.toNat + h)

/-- The selection after OAM entry `i` is examined: it is selected if it is on the line and there is room (R366). -/
def scanned (i : Nat) (s : State) : List Sprite :=
  let y := oamByte s i 0
  if onLine y s.ppu.ly s.ppu.objHeight && decide (s.ppu.sprites.length < 10) then
    s.ppu.sprites ++ [{ index := i, y := y, x := oamByte s i 1, fetched := false }]
  else s.ppu.sprites

/-- Examine OAM entry `i` (R366). -/
def scanEntry (i : Nat) (s : State) : State := s.setPpu { s.ppu with sprites := scanned i s }

/-- The WY comparison of dot 0 (R366, R374). -/
def wyCheck (s : State) : State :=
  if decide (s.ppu.dot = 0) && decide (s.ppu.wy.toNat = s.ppu.ly) then s.setPpu { s.ppu with wyTriggered := true } else s

/-- `OamScanDot()` (R366): entry i is examined at dot 2i. -/
def oamScanDot (s : State) : State :=
  let s' := wyCheck s
  if s.ppu.dot % 2 = 0 then scanEntry (s.ppu.dot / 2) s' else s'

/-! ## Mode 3: the line's start, the window and the background fetcher (R367 to R376) -/

/-- `LineStart()` (R367). -/
def Ppu.lineStart (p : Ppu) : Ppu :=
  { p with
    bgFifo := [], objFifo := [], lx := 0
    discard := p.scx.toNat % 8
    fetchState := .tileId, fetchSub := false, fetchTileX := 0
    windowActive := false, windowUsedLine := false
    spriteFetchLeft := 0
    sprites := p.sprites.map (fun sp => { sp with fetched := false }) }

/-- Whether the window starts at this dot (R368 step 2, R375). -/
def Ppu.windowStarts (p : Ppu) : Bool :=
  !p.windowActive && p.lcdc.getLsbD 5 && p.wyTriggered && decide (p.wx.toNat ≤ p.lx + 7)

/-- Window activation (R368 step 2, R375). -/
def Ppu.windowCheck (p : Ppu) : Ppu :=
  if p.windowStarts then
    { p with
      windowActive := true, windowUsedLine := true
      bgFifo := [], fetchState := .tileId, fetchSub := false, fetchTileX := 0, discard := 0 }
  else p

/-- The base of a tile map, by its LCDC bit (R370). -/
def mapBase (bit : Bool) : Nat := if bit then 0x9C00 else 0x9800

/-- `MapAddr()` (R370). -/
def Ppu.mapAddr (p : Ppu) : Nat :=
  if p.windowActive then
    mapBase (p.lcdc.getLsbD 6) + p.windowLine.toNat / 8 * 32 + p.fetchTileX.toNat
  else
    mapBase (p.lcdc.getLsbD 3) + (p.ly + p.scy.toNat) % 256 / 8 * 32 + (p.scx.toNat / 8 + p.fetchTileX.toNat) % 32

/-- The row of the tile the fetcher is on (R371). -/
def Ppu.tileRow (p : Ppu) : Nat :=
  if p.windowActive then p.windowLine.toNat % 8 else (p.ly + p.scy.toNat) % 8

/-- `TileAddr(id)` (R371): unsigned from 0x8000, or signed from 0x9000. -/
def Ppu.tileAddr (p : Ppu) (id : Byte) : Nat :=
  if p.lcdc.getLsbD 4 then 0x8000 + id.toNat * 16 + 2 * p.tileRow
  else ((0x9000 : Int) + id.toInt * 16).toNat + 2 * p.tileRow

/-- The colour of one column of a tile row: `hi[bit] << 1 | lo[bit]` (R372). -/
def pixelColour (lo hi : Byte) (bit : Nat) : Colour :=
  BitVec.ofBool (hi.getLsbD bit) ++ BitVec.ofBool (lo.getLsbD bit)

/-- The eight colours of a tile row, leftmost first (R372). -/
def rowPixels (lo hi : Byte) : List Colour := [7, 6, 5, 4, 3, 2, 1, 0].map (pixelColour lo hi)

/-- The action of a fetcher state in its second dot (R369). -/
def fetcherAction (s : State) : Ppu :=
  let p := { s.ppu with fetchSub := false }
  match p.fetchState with
  | .tileId => { p with tileId := ramRead s p.mapAddr, fetchState := .dataLo }
  | .dataLo => { p with tileLo := ramRead s (p.tileAddr p.tileId), fetchState := .dataHi }
  | .dataHi => { p with tileHi := ramRead s (p.tileAddr p.tileId + 1), fetchState := .push }
  | .push =>
    if p.bgFifo.isEmpty then
      { p with bgFifo := rowPixels p.tileLo p.tileHi, fetchTileX := p.fetchTileX + 1, fetchState := .sleep }
    else { p with fetchSub := true }
  | .sleep => { p with fetchState := .tileId }

/-- `FetcherDot()` (R369): each state takes two dots, and acts in the second. -/
def fetcherDot (s : State) : State :=
  if s.ppu.fetchSub then s.setPpu (fetcherAction s) else s.setPpu { s.ppu with fetchSub := true }

/-! ## Mode 3: sprites (R377 to R379) -/

/-- The first selected sprite, in OAM order, that the shifter has reached and that was not fetched (R368 step 4). -/
def Ppu.nextSprite (p : Ppu) : Option Sprite :=
  p.sprites.find? (fun sp => !sp.fetched && decide (sp.x ≠ 0) && decide (sp.x.toNat ≤ p.lx + 8))

/-- The sprite that is fetched from this dot on, if there is one (R368 step 4, R377). -/
def Ppu.spriteTrigger (p : Ppu) : Option Sprite :=
  if p.lcdc.getLsbD 1 && decide (p.discard = 0) && !p.bgFifo.isEmpty then p.nextSprite else none

/-- Start the fetch of a sprite: this dot and 5 more (R368 step 4). The sprite is kept by its OAM index (log entry 15). -/
def Ppu.startSpriteFetch (sp : Sprite) (p : Ppu) : Ppu :=
  { p with
    sprites := p.sprites.map (fun q => if q.index = sp.index then { q with fetched := true } else q)
    fetching := sp.index, spriteFetchLeft := 5 }

/-- The row of a sprite's tile data, with its Y-flip: `(ly + 16 - y) & (h - 1)` (R378). -/
def spriteRow (ly h : Nat) (y attr : Byte) : Nat :=
  let row := (BitVec.ofNat 8 (ly + 16) - y).toNat % h
  if attr.getLsbD 6 then h - 1 - row else row

/-- The pixels of a sprite's row that are not left of the screen, in column order, with its X-flip (R378). -/
def spritePixels (lo hi attr : Byte) (skip : Nat) : List ObjPixel :=
  ([0, 1, 2, 3, 4, 5, 6, 7].drop skip).map fun k =>
    { colour := pixelColour lo hi (if attr.getLsbD 5 then k else 7 - k)
      palette := attr.getLsbD 4, priority := attr.getLsbD 7 }

/-- A transparent sprite pixel. -/
def ObjPixel.transparent : ObjPixel := { colour := 0, palette := false, priority := false }

/-- The sprite FIFO padded with transparent pixels to 8 (R378). -/
def padObj (fifo : List ObjPixel) : List ObjPixel := fifo ++ List.replicate (8 - fifo.length) ObjPixel.transparent

/-- Mix new sprite pixels into the FIFO: a transparent slot takes the new pixel, an opaque one is kept (R378). -/
def mixObj : List ObjPixel → List ObjPixel → List ObjPixel
  | o :: os, n :: ns => (if o.colour = 0 then n else o) :: mixObj os ns
  | os, [] => os
  | [], _ :: _ => []

/-- The address of a sprite's tile row (R378): the unsigned form, an even tile on top for 8×16. -/
def spriteTileAddr (tile : Byte) (h row : Nat) : Nat :=
  0x8000 + (if h = 16 then tile &&& 0xFE else tile).toNat * 16 + 2 * row

/-- Mix the tile row of a fetched sprite into the sprite FIFO (R378). -/
def spriteMix (sp : Sprite) (s : State) : State :=
  let p := s.ppu
  let attr := oamByte s sp.index 3
  let a := spriteTileAddr (oamByte s sp.index 2) p.objHeight (spriteRow p.ly p.objHeight sp.y attr)
  s.setPpu { p with
    objFifo := mixObj (padObj p.objFifo)
      (spritePixels (ramRead s a) (ramRead s (a + 1)) attr (p.lx + 8 - sp.x.toNat)) }

/-- `SpriteFetchComplete()` (R378), for the sprite being fetched. -/
def spriteFetchComplete (s : State) : State :=
  match s.ppu.sprites.find? (fun sp => decide (sp.index = s.ppu.fetching)) with
  | some sp => spriteMix sp s
  | none => s

/-- A dot of a sprite fetch in progress (R368 step 1). -/
def spriteFetchDot (s : State) : State :=
  let s' := s.setPpu { s.ppu with spriteFetchLeft := s.ppu.spriteFetchLeft - 1 }
  if s'.ppu.spriteFetchLeft = 0 then spriteFetchComplete s' else s'

/-! ## Mode 3: pixel output (R380 to R383) -/

/-- Bits `[2i+1:2i]` of a palette (R46, R381). -/
def paletteShade (pal : Byte) (i : Colour) : Shade := pal.extractLsb' (2 * i.toNat) 2

/-- `Mix(b, o)` (R380). -/
def Ppu.mix (p : Ppu) (b : Colour) (o : Option ObjPixel) : Shade :=
  let bgc := if p.lcdc.getLsbD 0 then b else 0
  let back := if p.lcdc.getLsbD 0 then paletteShade p.bgp bgc else 0
  match o with
  | some q =>
    if decide (q.colour ≠ 0) && (!q.priority || decide (bgc = 0)) then
      paletteShade (if q.palette then p.obp1 else p.obp0) q.colour
    else back
  | none => back

/-- The number of a pixel in a framebuffer (R57). -/
def pixelIndex (x y : Nat) : Nat := 160 * y + x

/-- Output one pixel (R382). -/
def Ppu.output (p : Ppu) (b : Colour) : Ppu :=
  { p with
    objFifo := p.objFifo.tail
    drawFb := FrameBuffer.write p.drawFb (pixelIndex p.lx p.ly) (p.mix b p.objFifo.head?)
    lx := p.lx + 1 }

/-- The end of mode 3: mode 0 is entered, and the window's line counter moves on if it was shown (R376, R382). -/
def lineOut (s : State) : State :=
  let s' := enterMode .hblank s
  if s.ppu.windowUsedLine then s'.setPpu { s'.ppu with windowLine := s'.ppu.windowLine + 1 } else s'

/-- `Shift()` (R382), with the background FIFO's front pixel and the pixels behind it. -/
def shiftOut (b : Colour) (rest : List Colour) (s : State) : State :=
  let p := { s.ppu with bgFifo := rest }
  if p.discard > 0 then s.setPpu { p with discard := p.discard - 1 }
  else
    let s' := s.setPpu (p.output b)
    if s'.ppu.lx = 160 then lineOut s' else s'

/-- Steps 4 and 5 of R368: a sprite fetch starts, or the shifter moves if there is a background pixel. -/
def shiftOrFetch (s : State) : State :=
  match s.ppu.spriteTrigger with
  | some sp => s.setPpu (s.ppu.startSpriteFetch sp)
  | none =>
    match s.ppu.bgFifo with
    | [] => s
    | b :: rest => shiftOut b rest s

/-- `Mode3Dot()` (R368). -/
def mode3Dot (s : State) : State :=
  if s.ppu.spriteFetchLeft > 0 then spriteFetchDot s
  else shiftOrFetch (fetcherDot (s.setPpu s.ppu.windowCheck))

/-! ## Lines and frames (R360 to R363, R384) -/

/-- Hand a frame to the frame sink (R384). -/
def present (fb : FrameBuffer) (s : State) : State :=
  s.setEnv { s.env with outputs := s.env.outputs ++ [.present fb] }

/-- `FramePresent()` (R384): the buffers swap and the visible one is handed to the sink. -/
def framePresent (s : State) : State :=
  present s.ppu.drawFb (s.setPpu { s.ppu with drawFb := s.ppu.visibleFb, visibleFb := s.ppu.drawFb })

/-- The entry to LY = 144 (R363): mode 1, line 0, the frame. -/
def startVblank (s : State) : State := framePresent (requestInterrupt .vblank (enterMode .vblank s))

/-- The start of a visible line (R361). -/
def startLine (s : State) : State := enterMode .oamScan (s.setPpu { s.ppu with sprites := [] })

/-- The start of a frame (R361). -/
def startFrame (s : State) : State :=
  startLine (s.setPpu { s.ppu with ly := 0, wyTriggered := false, windowLine := 0 })

/-- The end of a line, at dot 456 (R361). -/
def endLine (s : State) : State :=
  let s' := s.setPpu { s.ppu with dot := 0, ly := s.ppu.ly + 1 }
  if s'.ppu.ly = 144 then startVblank s'
  else if s'.ppu.ly = 154 then startFrame s'
  else if s'.ppu.ly < 144 then startLine s'
  else s'

/-- The mode's own work in a dot (R361). -/
def modeDot (s : State) : State :=
  match s.ppu.mode with
  | .oamScan => oamScanDot s
  | .pixelXfer => mode3Dot s
  | .hblank | .vblank => s

/-- The move to the next dot, into mode 3 at dot 80 and to the next line at dot 456 (R361). -/
def advanceDot (s : State) : State :=
  let s1 := s.setPpu { s.ppu with dot := s.ppu.dot + 1 }
  let s2 :=
    if s1.ppu.mode = .oamScan ∧ s1.ppu.dot = 80 then
      let s' := enterMode .pixelXfer s1
      s'.setPpu s'.ppu.lineStart
    else s1
  if s2.ppu.dot = 456 then endLine s2 else s2

/-- `PpuT()` (R361): nothing while the LCD is off (R385). -/
def ppuT (s : State) : State :=
  if s.ppu.lcdOn then lycUpdate (advanceDot (modeDot s)) else s

/-! ## The LCD switch (R385, R386) -/

/-- The effects of turning the LCD off (R385), besides the white frame. -/
def Ppu.turnOff (p : Ppu) : Ppu :=
  { p with
    ly := 0, dot := 0, mode := .hblank
    bgFifo := [], objFifo := [], sprites := [], lx := 0, spriteFetchLeft := 0
    fetchState := .tileId, fetchSub := false, fetchTileX := 0
    wyTriggered := false, windowActive := false, windowUsedLine := false, windowLine := 0
    drawFb := [] }

/-- The effects of turning the LCD on (R386). -/
def Ppu.turnOn (p : Ppu) : Ppu := { p with ly := 0, dot := 0, mode := .oamScan }

/-- A CPU write to LCDC: the bits are stored, and a change of bit 7 switches the LCD (R385, R386, R389). -/
def writeLcdc (v : Byte) (s : State) : State :=
  let p := { s.ppu with lcdc := v }
  if s.ppu.lcdOn && !v.getLsbD 7 then present [] (s.setPpu p.turnOff)
  else if !s.ppu.lcdOn && v.getLsbD 7 then s.setPpu p.turnOn
  else s.setPpu p

end Sys2Proof.Machine
end

