-- ==== Sys2Proof/Machine/Timer.lean ====
section
/-! DEFINITION. The timer: the system counter, the falling-edge detector, the overflow window, and the effects of writes
to its registers (R320 to R329). -/

namespace Sys2Proof.Machine

/-- The bit of the system counter TAC[1:0] selects (R323). -/
def timerSelect (tac : BitVec 3) : Nat :=
  let sel := tac.extractLsb' 0 2
  if sel = 0 then 9 else if sel = 1 then 3 else if sel = 2 then 5 else 7

/-- The edge detector's input, `TAC[2] & sys_counter[sel]` (R324). -/
def Timer.signal (t : Timer) : Bool := t.tac.getLsbD 2 && t.sysCounter.getLsbD (timerSelect t.tac)

/-- `TimaIncrement()` (R325). -/
def Timer.increment (t : Timer) : Timer :=
  if t.tima = 0xFF then { t with tima := 0x00, reloadCountdown := 4 } else { t with tima := t.tima + 1 }

/-- `TimerEdgeCheck()` (R324). -/
def Timer.edgeCheck (t : Timer) : Timer :=
  let t' := if t.signalPrev && !t.signal then t.increment else t
  { t' with signalPrev := t.signal }

/-- The counter reset of a DIV write (R322) and of STOP (R262). -/
def Timer.resetCounter (t : Timer) : Timer := Timer.edgeCheck { t with sysCounter := 0 }

/-- A CPU write to TIMA: it "aborts the reload" (R327). -/
def Timer.writeTima (v : Byte) (t : Timer) : Timer := { t with tima := v, reloadCountdown := 0 }

/-- A CPU write to TMA (R328). -/
def Timer.writeTma (v : Byte) (t : Timer) : Timer := { t with tma := v }

/-- A CPU write to TAC: bits 2:0 are stored and the edge detector sees them at once (R329). -/
def Timer.writeTac (v : Byte) (t : Timer) : Timer := Timer.edgeCheck { t with tac := v.setWidth 3 }

/-- DIV, `sys_counter[15:8]` (R35). -/
def Timer.div (t : Timer) : Byte := t.sysCounter.extractLsb' 8 8

/-- The overflow window's part of a T-cycle (R326): the countdown, and at its end the reload of TIMA from TMA. -/
def Timer.window (t : Timer) : Timer :=
  match t.reloadCountdown with
  | 0 => t
  | 1 => { t with reloadCountdown := 0, tima := t.tma }
  | k + 2 => { t with reloadCountdown := k + 1 }

/-- The counter's part of a T-cycle (R326). -/
def Timer.count (t : Timer) : Timer := Timer.edgeCheck { t with sysCounter := t.sysCounter + 1 }

/-- `TimerT()` (R326): the reload, if this T-cycle ends the window, requests line 2. -/
def timerT (s : State) : State :=
  let s' := s.setTimer s.timer.window.count
  if s.timer.reloadCountdown = 1 then requestInterrupt .timer s' else s'

end Sys2Proof.Machine
end

