-- ==== Sys2Proof/Machine/Bus.lean ====
section
/-! DEFINITION. The bus: the address map (R70 to R79), the I/O registers (R33 to R51, R74), and the CPU-side access with
its blocking (R80 to R83). A read is two functions, the byte and the state it leaves: only a read that a collaborator
answers leaves another state, one draw further. -/

namespace Sys2Proof.Machine

/-! ## The address map (R71) -/

/-- The ranges of the address map (R71). -/
inductive Region where
  | rom | vram | extRam | wram | echo | oam | prohibited | io | hram | ie
deriving DecidableEq, Repr

/-- The range an address lies in (R71). -/
def regionOf (a : Word) : Region :=
  if a.toNat < 0x8000 then .rom
  else if a.toNat < 0xA000 then .vram
  else if a.toNat < 0xC000 then .extRam
  else if a.toNat < 0xE000 then .wram
  else if a.toNat < 0xFE00 then .echo
  else if a.toNat < 0xFEA0 then .oam
  else if a.toNat < 0xFF00 then .prohibited
  else if a.toNat < 0xFF80 then .io
  else if a.toNat < 0xFFFF then .hram
  else .ie

/-- The owners of the I/O addresses (R74). -/
inductive IoReg where
  | joypad | serial | div | tima | tma | tac | ifReg | apu
  | lcdc | stat | scy | scx | ly | lyc | dma | bgp | obp0 | obp1 | wy | wx | boot | unclaimed
deriving DecidableEq, Repr

/-- The owner of an I/O address (R74); an address with none is unclaimed (R94). -/
def ioRegOf (a : Word) : IoReg :=
  if a = 0xFF00 then .joypad
  else if a = 0xFF01 ∨ a = 0xFF02 then .serial
  else if a = 0xFF04 then .div
  else if a = 0xFF05 then .tima
  else if a = 0xFF06 then .tma
  else if a = 0xFF07 then .tac
  else if a = 0xFF0F then .ifReg
  else if 0xFF10 ≤ a.toNat ∧ a.toNat ≤ 0xFF3F then .apu
  else if a = 0xFF40 then .lcdc
  else if a = 0xFF41 then .stat
  else if a = 0xFF42 then .scy
  else if a = 0xFF43 then .scx
  else if a = 0xFF44 then .ly
  else if a = 0xFF45 then .lyc
  else if a = 0xFF46 then .dma
  else if a = 0xFF47 then .bgp
  else if a = 0xFF48 then .obp0
  else if a = 0xFF49 then .obp1
  else if a = 0xFF4A then .wy
  else if a = 0xFF4B then .wx
  else if a = 0xFF50 then .boot
  else .unclaimed

/-! ## Collaborators -/

/-- The byte of the boot image at an offset: the one that is known, or a free value (R77; log entry 5). -/
def bootRomRead (s : State) (a : Nat) : Byte := (Memory.read s.env.bootRom a).getD (Config.bootRomByte a)

/-- `cart_read(addr)`: the byte that is known of the cartridge, or a draw (R79; log entry 4). -/
def cartRead (s : State) (a : Nat) : Byte := (Memory.read s.env.cart a).getD (Config.cartDraw s.env.draws)

/-- The environment after a cartridge write (R79; log entry 4): the write is delivered, and of what was known of the
cartridge only "ROM bank 0 (fixed)" is still known (R71). -/
def Env.cartWrite (a : Word) (v : Byte) (e : Env) : Env :=
  { e with cart := e.cart.filter (fun c => decide (c.1 < 0x4000)), outputs := e.outputs ++ [.cartWrite a v] }

/-- The environment after a write to the joypad, serial port or APU (R74; log entry 6). -/
def Env.ioWrite (a : Word) (v : Byte) (e : Env) : Env := { e with outputs := e.outputs ++ [.ioWrite a v] }

/-- The state one draw further. -/
def takeDraw (s : State) : State := s.setEnv { s.env with draws := s.env.draws + 1 }

/-! ## I/O registers -/

/-- `IoRead(a)` (R74): R33 to R51, R94, R320. -/
def ioRead (s : State) (a : Word) : Byte :=
  match ioRegOf a with
  | .joypad | .serial | .apu => Config.ioDraw s.env.draws
  | .div => s.timer.div
  | .tima => s.timer.tima
  | .tma => s.timer.tma
  | .tac => 0b11111#5 ++ s.timer.tac
  | .ifReg => 0b111#3 ++ s.ifReg
  | .lcdc => s.ppu.lcdc
  | .stat => s.ppu.stat
  | .scy => s.ppu.scy
  | .scx => s.ppu.scx
  | .ly => BitVec.ofNat 8 s.ppu.ly
  | .lyc => s.ppu.lyc
  | .dma => s.dma.reg
  | .bgp => s.ppu.bgp
  | .obp0 => s.ppu.obp0
  | .obp1 => s.ppu.obp1
  | .wy => s.ppu.wy
  | .wx => s.ppu.wx
  | .boot => 0xFF
  | .unclaimed => 0xFF

/-- Whether a collaborator answers a read of an I/O address (R74). -/
def ioDraws (a : Word) : Bool :=
  match ioRegOf a with
  | .joypad | .serial | .apu => true
  | .div | .tima | .tma | .tac | .ifReg | .lcdc | .stat | .scy | .scx | .ly | .lyc | .dma | .bgp | .obp0 | .obp1
  | .wy | .wx | .boot | .unclaimed => false

/-- A CPU write to FF46 starts the copy (R340). -/
def Dma.start (v : Byte) : Dma := { reg := v, active := true, src := wordOf v 0, index := 0, sub := 0 }

/-- `IoWrite(a, v)` (R74): R33 to R51, R94, R322, R327 to R329, R340, R385, R386, R389. -/
def ioWrite (a : Word) (v : Byte) (s : State) : State :=
  match ioRegOf a with
  | .joypad | .serial | .apu => s.setEnv (s.env.ioWrite a v)
  | .div => s.setTimer s.timer.resetCounter
  | .tima => s.setTimer (s.timer.writeTima v)
  | .tma => s.setTimer (s.timer.writeTma v)
  | .tac => s.setTimer (s.timer.writeTac v)
  | .ifReg => s.setIf (v.setWidth 5)
  | .lcdc => writeLcdc v s
  | .stat => s.setPpu { s.ppu with statSel := v.extractLsb' 3 4 }
  | .scy => s.setPpu { s.ppu with scy := v }
  | .scx => s.setPpu { s.ppu with scx := v }
  | .ly => s
  | .lyc => s.setPpu { s.ppu with lyc := v }
  | .dma => s.setDma (Dma.start v)
  | .bgp => s.setPpu { s.ppu with bgp := v }
  | .obp0 => s.setPpu { s.ppu with obp0 := v }
  | .obp1 => s.setPpu { s.ppu with obp1 := v }
  | .wy => s.setPpu { s.ppu with wy := v }
  | .wx => s.setPpu { s.ppu with wx := v }
  | .boot => { s with bootMapped := false }
  | .unclaimed => s

/-! ## The bus (R71) -/

/-- Whether a read comes from the boot image (R77). -/
def inBootOverlay (s : State) (a : Word) : Bool := s.bootMapped && decide (a.toNat ≤ 0x00FF)

/-- `BusRead(a)` (R71, "read" column). -/
def busRead (s : State) (a : Word) : Byte :=
  match regionOf a with
  | .rom => if inBootOverlay s a then bootRomRead s a.toNat else cartRead s a.toNat
  | .vram | .wram | .oam | .hram => ramRead s a.toNat
  | .extRam => cartRead s a.toNat
  | .echo => ramRead s (a.toNat - 0x2000)
  | .prohibited => 0xFF
  | .io => ioRead s a
  | .ie => s.ieReg

/-- Whether `BusRead(a)` takes a draw: a collaborator answers, and the answer is not known. -/
def busDraws (s : State) (a : Word) : Bool :=
  match regionOf a with
  | .rom => !inBootOverlay s a && (Memory.read s.env.cart a.toNat).isNone
  | .extRam => (Memory.read s.env.cart a.toNat).isNone
  | .io => ioDraws a
  | .vram | .wram | .oam | .hram | .echo | .prohibited | .ie => false

/-- The state after `BusRead(a)`. "No read within the block has a side effect" (R90). -/
def afterBusRead (a : Word) (s : State) : State := if busDraws s a then takeDraw s else s

/-- `BusWrite(a, v)` (R71, "write" column). -/
def busWrite (a : Word) (v : Byte) (s : State) : State :=
  match regionOf a with
  | .rom | .extRam => s.setEnv (s.env.cartWrite a v)
  | .vram | .wram | .oam | .hram => ramWrite a.toNat v s
  | .echo => ramWrite (a.toNat - 0x2000) v s
  | .prohibited => s
  | .io => ioWrite a v s
  | .ie => { s with ieReg := v }

/-! ## The CPU-side access (R80 to R83) -/

/-- Whether a CPU-side access is blocked: by DMA outside FF80–FFFE (R82), by mode 3 in VRAM and OAM, by mode 2 in OAM
(R83). -/
def cpuBlocked (s : State) (a : Word) : Bool :=
  (s.dma.active && decide (regionOf a ≠ .hram))
    || (decide (regionOf a = .vram) && decide (s.ppu.mode = .pixelXfer))
    || (decide (regionOf a = .oam) && (decide (s.ppu.mode = .oamScan) || decide (s.ppu.mode = .pixelXfer)))

/-- `CpuRead(a)` (R80): a blocked read gives 0xFF. -/
def cpuRead (s : State) (a : Word) : Byte := if cpuBlocked s a then 0xFF else busRead s a

/-- The state after `CpuRead(a)`. -/
def afterCpuRead (a : Word) (s : State) : State := if cpuBlocked s a then s else afterBusRead a s

/-- `CpuWrite(a, v)` (R81): a blocked write is dropped. -/
def cpuWrite (a : Word) (v : Byte) (s : State) : State := if cpuBlocked s a then s else busWrite a v s

end Sys2Proof.Machine
end

