-- ==== Sys2Proof/Machine/Dma.lean ====
section
/-! DEFINITION. The OAM DMA engine (R340 to R347). It reads through the bus without the CPU's blocking and writes OAM
directly (R95, R343). -/

namespace Sys2Proof.Machine

/-- The address the engine copies from next (R341). -/
def Dma.source (d : Dma) : Word := d.src + BitVec.ofNat 16 d.index

/-- Whether a source address is in page FE or FF, whose bytes are draws (R342). -/
def dmaHigh (a : Word) : Bool := hiByte a = 0xFE || hiByte a = 0xFF

/-- `DmaSourceRead(a)` (R342; log entry 7). -/
def dmaRead (s : State) (a : Word) : Byte := if dmaHigh a then Config.dmaHighDraw s.env.draws else busRead s a

/-- The state after `DmaSourceRead(a)`. -/
def afterDmaRead (a : Word) (s : State) : State := if dmaHigh a then takeDraw s else afterBusRead a s

/-- Copy one byte (R341): into OAM at the index, and the copy ends with byte 160. -/
def dmaCopy (s : State) : State :=
  let a := s.dma.source
  let s' := ramWrite (0xFE00 + s.dma.index) (dmaRead s a) (afterDmaRead a s)
  s'.setDma { s.dma with sub := 0, index := s.dma.index + 1, active := decide (s.dma.index + 1 ≠ 160) }

/-- `DmaT()` (R341): one byte per four T-cycles. -/
def dmaT (s : State) : State :=
  if s.dma.active then
    if s.dma.sub + 1 = 4 then dmaCopy s else s.setDma { s.dma with sub := s.dma.sub + 1 }
  else s

end Sys2Proof.Machine
end

