-- ==== Sys2Proof/Machine/Ops.lean ====
section
/-! DEFINITION. The T-cycle and the M-cycle (R84 to R86), the CPU's primitives (R10 to R12), the fetch of an instruction's
bytes (R293), and the block's one exception entry, interrupt service, with the return from it (R288 to R291). -/

namespace Sys2Proof.Machine

/-! ## The collaborators' part of a T-cycle (R86 step 4, R302; log entry 8) -/

/-- A request of a collaborator: a joypad edge requests line 4 and clears `stopped`; the serial port requests line 3
(R296, R302). -/
def deliver (e : ExtEvent) (s : State) : State :=
  match e with
  | .joypadEdge => requestInterrupt .joypad (s.setLatch { s.latch with stopped := false })
  | .serialRequest => requestInterrupt .serial s

/-- Deliver the requests that are due, and count the wait of the next one down. -/
def deliverDue : List (Nat × ExtEvent) → State → State
  | [], s => s.setEnv { s.env with inputs := [] }
  | (0, e) :: rest, s => deliverDue rest (deliver e s)
  | (n + 1, e) :: rest, s => s.setEnv { s.env with inputs := (n, e) :: rest }

/-- One T-cycle of the collaborators. -/
def collaboratorsT (s : State) : State := deliverDue s.env.inputs s

/-! ## T-cycle and M-cycle -/

/-- `TickT()` (R86): the timer, the DMA engine, the PPU, the collaborators. -/
def tickT (s : State) : State := collaboratorsT (ppuT (dmaT (timerT s)))

/-- `cycles <- cycles + 4` (R32). -/
def State.addCycles (s : State) : State := { s with cycles := s.cycles + 4 }

/-- The four T-cycles of an M-cycle (R84 part 2, R85). -/
def mcycle (s : State) : State := (tickT (tickT (tickT (tickT s)))).addCycles

/-! ## Bus primitives (R10) -/

/-- `Internal()` (R85): an M-cycle with no bus access. -/
def internal (s : State) : State := mcycle s

/-- The state after `MemRead(a, 1)`; the byte it returns is `cpuRead s a` (R80, R84). -/
def memRead (a : Word) (s : State) : State := mcycle (afterCpuRead a s)

/-- `MemWrite(a, 1, v)` (R81, R84). -/
def memWrite (a : Word) (v : Byte) (s : State) : State := mcycle (cpuWrite a v s)

/-! ## CPU primitives (R11, R12) -/

/-- The byte `Fetch()` and `Imm8()` return: the CPU-side read at PC (R11). -/
def pcByte (s : State) : Byte := cpuRead s s.regs.pc

/-- The advance of PC by one byte, modulo 2^16 (R25). -/
def State.advancePc (s : State) : State := s.setPc (s.regs.pc + 1)

/-- The state after `Fetch()` (R11, R293): PC does not advance if `halt_bug` is set, which this consumes. -/
def fetch (s : State) : State :=
  let s' := memRead s.regs.pc s
  if s'.latch.haltBug then s'.setLatch { s'.latch with haltBug := false } else s'.advancePc

/-- The state after `Imm8()` (R11), whatever `halt_bug` is. -/
def imm8 (s : State) : State := (memRead s.regs.pc s).advancePc

/-- One half of `Push16` (R11): SP moves down and a byte is written there. -/
def pushByte (v : Byte) (s : State) : State := memWrite (s.regs.sp - 1) v (s.setSp (s.regs.sp - 1))

/-- `Push16(v)` (R11): the high byte first. -/
def push16 (v : Word) (s : State) : State := pushByte (loByte v) (pushByte (hiByte v) s)

/-- The state after one half of `Pop16` (R11): a byte is read at SP and SP moves up. -/
def popByte (s : State) : State :=
  let s' := memRead s.regs.sp s
  s'.setSp (s'.regs.sp + 1)

/-- The state after `Pop16()` (R11). -/
def pop16 (s : State) : State := popByte (popByte s)

/-- The word `Pop16()` returns, low byte first (R11). -/
def popWord (s : State) : Word :=
  let s' := popByte s
  wordOf (cpuRead s' s'.regs.sp) (cpuRead s s.regs.sp)

/-- `Lock()` (R12, R266). -/
def lock (s : State) : State := s.setLatch { s.latch with locked := true }

/-! ## Fetching an instruction's bytes -/

/-- The instruction at PC: the opcode byte, and the operand bytes its encoding asks for, each read in its own M-cycle
(R110, R118; log entry 10). -/
def fetchedInstr (s : State) : Instr :=
  let op := pcByte s
  match operandReads op with
  | 0 => decodeOp op 0 0
  | 1 => decodeOp op (pcByte (fetch s)) 0
  | _ => decodeOp op (pcByte (fetch s)) (pcByte (imm8 (fetch s)))

/-- The state after all of the instruction's bytes have been read: PC points past them (R25). -/
def afterFetch (s : State) : State :=
  match operandReads (pcByte s) with
  | 0 => fetch s
  | 1 => imm8 (fetch s)
  | _ => imm8 (imm8 (fetch s))

/-! ## Interrupt service: the block's one exception entry (R288 to R290) -/

/-- The address service pushes: PC, or PC − 1 where it consumes the halt bug (R288, R303). -/
def serviceReturn (s : State) : Word := if s.latch.haltBug then s.regs.pc - 1 else s.regs.pc

/-- What service does before its first M-cycle (R288): the line's IF bit, IME, `ime_pending` and `halt_bug` are cleared. -/
def acknowledge (n : IntLine) (s : State) : State :=
  (s.setIf (s.ifReg &&& ~~~n.mask)).setLatch { s.latch with ime := false, imePending := false, haltBug := false }

/-- Service of line n (R288, R290): `I, I, W(SP-1), W(SP-2), I`, and PC at the vector. -/
def takeInterrupt (n : IntLine) (s : State) : State :=
  (internal (push16 (serviceReturn s) (internal (internal (acknowledge n s))))).setPc n.vector

/-- The return from service, RETI (R250, R291): `PC <- Pop16(); Internal(); IME <- 1`. -/
def returnFromInterrupt (s : State) : State :=
  let s' := internal ((pop16 s).setPc (popWord s))
  s'.setLatch { s'.latch with ime := true }

end Sys2Proof.Machine
end

