-- ==== Sys2Proof/Machine/Alu16.lean ====
section
/-! DEFINITION. The 16-bit arithmetic (R200 to R204). -/

namespace Sys2Proof.Machine

/-! ## Shared operations -/

/-- `ADD HL,rr` (R201): Z is kept. -/
def addHl (rr : Reg16) (s : State) : State :=
  ((internal s).setReg16 .hl (s.regs.hl + s.regs.get16 rr)).setFlags
    (addHlFlags s.regs.hl (s.regs.get16 rr) s.regs.f)

/-- `INC rr` (R202): no flag changes. -/
def incReg16 (rr : Reg16) (s : State) : State := (internal s).setReg16 rr (s.regs.get16 rr + 1)

/-- `DEC rr` (R203): no flag changes. -/
def decReg16 (rr : Reg16) (s : State) : State := (internal s).setReg16 rr (s.regs.get16 rr - 1)

/-- `ADD SP,e8` (R204). -/
def addSp (e : Byte) (s : State) : State :=
  ((internal (internal s)).setSp (addSpE s.regs.sp e)).setFlags (addSpEFlags s.regs.sp e)

/-! ## The rows -/

/-! `ADD HL,rr` (R201). -/

def execAddHlBc (s : State) : Result := .next (addHl .bc s)
def execAddHlDe (s : State) : Result := .next (addHl .de s)
def execAddHlHl (s : State) : Result := .next (addHl .hl s)
def execAddHlSp (s : State) : Result := .next (addHl .sp s)

/-! `INC rr` (R202). -/

def execIncBc (s : State) : Result := .next (incReg16 .bc s)
def execIncDe (s : State) : Result := .next (incReg16 .de s)
def execIncHl (s : State) : Result := .next (incReg16 .hl s)
def execIncSp (s : State) : Result := .next (incReg16 .sp s)

/-! `DEC rr` (R203). -/

def execDecBc (s : State) : Result := .next (decReg16 .bc s)
def execDecDe (s : State) : Result := .next (decReg16 .de s)
def execDecHl (s : State) : Result := .next (decReg16 .hl s)
def execDecSp (s : State) : Result := .next (decReg16 .sp s)

/-! `ADD SP,e8` (R204). -/

def execAddSpE8 (e : Byte) (s : State) : Result := .next (addSp e s)

end Sys2Proof.Machine
end

