-- ==== Sys2Proof/Machine/Alu8.lean ====
section
/-! DEFINITION. The 8-bit arithmetic and logic (R160 to R192). -/

namespace Sys2Proof.Machine

/-! ## Shared operations -/

/-- Write a result to A and the flags it sets. -/
def State.setAcc (o : AluOut) (s : State) : State := (s.setReg8 .a o.res).setFlags o.flags

/-- Apply an ALU operation to A and `v`: CP writes the flags only, the others write A as well (R161 to R184). -/
def aluApply (op : AluOp) (v : Byte) (s : State) : State :=
  let o := alu op s.regs.a v s.regs.f.c
  match op with
  | .cp => s.setFlags o.flags
  | .add | .adc | .sub | .sbc | .and | .xor | .or => s.setAcc o

/-- The register forms (R161, R164, R167, R170, R173, R176, R179, R182). -/
def aluReg (op : AluOp) (r : Reg8) (s : State) : State := aluApply op (s.regs.get8 r) s

/-- The `(HL)` forms (R162, R165, R168, R171, R174, R177, R180, R183). -/
def aluMemHl (op : AluOp) (s : State) : State := aluApply op (cpuRead s s.regs.hl) (memRead s.regs.hl s)

/-- The immediate forms (R163, R166, R169, R172, R175, R178, R181, R184). -/
def aluImm (op : AluOp) (n : Byte) (s : State) : State := aluApply op n s

/-- Write a result to a register and the flags it sets. -/
def State.setRegOut (r : Reg8) (o : AluOut) (s : State) : State := (s.setReg8 r o.res).setFlags o.flags

/-- The `(HL)` form of an operation that reads, computes and writes back in two M-cycles (R186, R188, R215 to R229,
R436): the read, the write of the result, then the flags. -/
def modifyMemHl (g : Byte → Flags → AluOut) (s : State) : State :=
  let o := g (cpuRead s s.regs.hl) s.regs.f
  (memWrite s.regs.hl o.res (memRead s.regs.hl s)).setFlags o.flags

/-- `INC r` (R185). -/
def incReg (r : Reg8) (s : State) : State := s.setRegOut r (incByte (s.regs.get8 r) s.regs.f)

/-- `INC (HL)` (R186). -/
def incMemHl (s : State) : State := modifyMemHl incByte s

/-- `DEC r` (R187). -/
def decReg (r : Reg8) (s : State) : State := s.setRegOut r (decByte (s.regs.get8 r) s.regs.f)

/-- `DEC (HL)` (R188). -/
def decMemHl (s : State) : State := modifyMemHl decByte s

/-- `DAA` (R189). -/
def daa (s : State) : State := s.setAcc (daaByte s.regs.a s.regs.f)

/-- `CPL` (R190): `A <- ~A; N <- 1; Hf <- 1`. -/
def cpl (s : State) : State := (s.setReg8 .a (~~~s.regs.a)).setFlags { s.regs.f with n := true, h := true }

/-- `SCF` (R191): `N <- 0; Hf <- 0; Cy <- 1`. -/
def scf (s : State) : State := s.setFlags { s.regs.f with n := false, h := false, c := true }

/-- `CCF` (R192): `N <- 0; Hf <- 0; Cy <- 1 − Cy`. -/
def ccf (s : State) : State := s.setFlags { s.regs.f with n := false, h := false, c := !s.regs.f.c }

/-! ## The rows -/

/-! `ADD r` (R161). -/

def execAddAB (s : State) : Result := .next (aluReg .add .b s)
def execAddAC (s : State) : Result := .next (aluReg .add .c s)
def execAddAD (s : State) : Result := .next (aluReg .add .d s)
def execAddAE (s : State) : Result := .next (aluReg .add .e s)
def execAddAH (s : State) : Result := .next (aluReg .add .h s)
def execAddAL (s : State) : Result := .next (aluReg .add .l s)
def execAddAA (s : State) : Result := .next (aluReg .add .a s)

/-! `ADD (HL)` (R162). -/

def execAddAMemHl (s : State) : Result := .next (aluMemHl .add s)

/-! `ADD n` (R163). -/

def execAddAN (n : Byte) (s : State) : Result := .next (aluImm .add n s)

/-! `ADC r` (R164). -/

def execAdcAB (s : State) : Result := .next (aluReg .adc .b s)
def execAdcAC (s : State) : Result := .next (aluReg .adc .c s)
def execAdcAD (s : State) : Result := .next (aluReg .adc .d s)
def execAdcAE (s : State) : Result := .next (aluReg .adc .e s)
def execAdcAH (s : State) : Result := .next (aluReg .adc .h s)
def execAdcAL (s : State) : Result := .next (aluReg .adc .l s)
def execAdcAA (s : State) : Result := .next (aluReg .adc .a s)

/-! `ADC (HL)` (R165). -/

def execAdcAMemHl (s : State) : Result := .next (aluMemHl .adc s)

/-! `ADC n` (R166). -/

def execAdcAN (n : Byte) (s : State) : Result := .next (aluImm .adc n s)

/-! `SUB r` (R167). -/

def execSubB (s : State) : Result := .next (aluReg .sub .b s)
def execSubC (s : State) : Result := .next (aluReg .sub .c s)
def execSubD (s : State) : Result := .next (aluReg .sub .d s)
def execSubE (s : State) : Result := .next (aluReg .sub .e s)
def execSubH (s : State) : Result := .next (aluReg .sub .h s)
def execSubL (s : State) : Result := .next (aluReg .sub .l s)
def execSubA (s : State) : Result := .next (aluReg .sub .a s)

/-! `SUB (HL)` (R168). -/

def execSubMemHl (s : State) : Result := .next (aluMemHl .sub s)

/-! `SUB n` (R169). -/

def execSubN (n : Byte) (s : State) : Result := .next (aluImm .sub n s)

/-! `SBC r` (R170). -/

def execSbcAB (s : State) : Result := .next (aluReg .sbc .b s)
def execSbcAC (s : State) : Result := .next (aluReg .sbc .c s)
def execSbcAD (s : State) : Result := .next (aluReg .sbc .d s)
def execSbcAE (s : State) : Result := .next (aluReg .sbc .e s)
def execSbcAH (s : State) : Result := .next (aluReg .sbc .h s)
def execSbcAL (s : State) : Result := .next (aluReg .sbc .l s)
def execSbcAA (s : State) : Result := .next (aluReg .sbc .a s)

/-! `SBC (HL)` (R171). -/

def execSbcAMemHl (s : State) : Result := .next (aluMemHl .sbc s)

/-! `SBC n` (R172). -/

def execSbcAN (n : Byte) (s : State) : Result := .next (aluImm .sbc n s)

/-! `AND r` (R173). -/

def execAndB (s : State) : Result := .next (aluReg .and .b s)
def execAndC (s : State) : Result := .next (aluReg .and .c s)
def execAndD (s : State) : Result := .next (aluReg .and .d s)
def execAndE (s : State) : Result := .next (aluReg .and .e s)
def execAndH (s : State) : Result := .next (aluReg .and .h s)
def execAndL (s : State) : Result := .next (aluReg .and .l s)
def execAndA (s : State) : Result := .next (aluReg .and .a s)

/-! `AND (HL)` (R174). -/

def execAndMemHl (s : State) : Result := .next (aluMemHl .and s)

/-! `AND n` (R175). -/

def execAndN (n : Byte) (s : State) : Result := .next (aluImm .and n s)

/-! `XOR r` (R176). -/

def execXorB (s : State) : Result := .next (aluReg .xor .b s)
def execXorC (s : State) : Result := .next (aluReg .xor .c s)
def execXorD (s : State) : Result := .next (aluReg .xor .d s)
def execXorE (s : State) : Result := .next (aluReg .xor .e s)
def execXorH (s : State) : Result := .next (aluReg .xor .h s)
def execXorL (s : State) : Result := .next (aluReg .xor .l s)
def execXorA (s : State) : Result := .next (aluReg .xor .a s)

/-! `XOR (HL)` (R177). -/

def execXorMemHl (s : State) : Result := .next (aluMemHl .xor s)

/-! `XOR n` (R178). -/

def execXorN (n : Byte) (s : State) : Result := .next (aluImm .xor n s)

/-! `OR r` (R179). -/

def execOrB (s : State) : Result := .next (aluReg .or .b s)
def execOrC (s : State) : Result := .next (aluReg .or .c s)
def execOrD (s : State) : Result := .next (aluReg .or .d s)
def execOrE (s : State) : Result := .next (aluReg .or .e s)
def execOrH (s : State) : Result := .next (aluReg .or .h s)
def execOrL (s : State) : Result := .next (aluReg .or .l s)
def execOrA (s : State) : Result := .next (aluReg .or .a s)

/-! `OR (HL)` (R180). -/

def execOrMemHl (s : State) : Result := .next (aluMemHl .or s)

/-! `OR n` (R181). -/

def execOrN (n : Byte) (s : State) : Result := .next (aluImm .or n s)

/-! `CP r` (R182). -/

def execCpB (s : State) : Result := .next (aluReg .cp .b s)
def execCpC (s : State) : Result := .next (aluReg .cp .c s)
def execCpD (s : State) : Result := .next (aluReg .cp .d s)
def execCpE (s : State) : Result := .next (aluReg .cp .e s)
def execCpH (s : State) : Result := .next (aluReg .cp .h s)
def execCpL (s : State) : Result := .next (aluReg .cp .l s)
def execCpA (s : State) : Result := .next (aluReg .cp .a s)

/-! `CP (HL)` (R183). -/

def execCpMemHl (s : State) : Result := .next (aluMemHl .cp s)

/-! `CP n` (R184). -/

def execCpN (n : Byte) (s : State) : Result := .next (aluImm .cp n s)

/-! `INC r` (R185). -/

def execIncB (s : State) : Result := .next (incReg .b s)
def execIncC (s : State) : Result := .next (incReg .c s)
def execIncD (s : State) : Result := .next (incReg .d s)
def execIncE (s : State) : Result := .next (incReg .e s)
def execIncH (s : State) : Result := .next (incReg .h s)
def execIncL (s : State) : Result := .next (incReg .l s)
def execIncA (s : State) : Result := .next (incReg .a s)

/-! `INC (HL)` (R186). -/

def execIncMemHl (s : State) : Result := .next (incMemHl s)

/-! `DEC r` (R187). -/

def execDecB (s : State) : Result := .next (decReg .b s)
def execDecC (s : State) : Result := .next (decReg .c s)
def execDecD (s : State) : Result := .next (decReg .d s)
def execDecE (s : State) : Result := .next (decReg .e s)
def execDecH (s : State) : Result := .next (decReg .h s)
def execDecL (s : State) : Result := .next (decReg .l s)
def execDecA (s : State) : Result := .next (decReg .a s)

/-! `DEC (HL)` (R188). -/

def execDecMemHl (s : State) : Result := .next (decMemHl s)

/-! `DAA` (R189). -/

def execDaa (s : State) : Result := .next (daa s)

/-! `CPL` (R190). -/

def execCpl (s : State) : Result := .next (cpl s)

/-! `SCF` (R191). -/

def execScf (s : State) : Result := .next (scf s)

/-! `CCF` (R192). -/

def execCcf (s : State) : Result := .next (ccf s)

end Sys2Proof.Machine
end

