-- ==== Sys2Proof/Machine/Bit.lean ====
section
/-! DEFINITION. BIT, RES and SET (R230 to R235). -/

namespace Sys2Proof.Machine

/-! ## Shared operations -/

/-- `BIT b,r` (R230). -/
def bitReg (b : Oct) (r : Reg8) (s : State) : State := s.setFlags (bitFlags b (s.regs.get8 r) s.regs.f)

/-- `BIT b,(HL)` (R231): there is no write. -/
def bitMemHl (b : Oct) (s : State) : State :=
  (memRead s.regs.hl s).setFlags (bitFlags b (cpuRead s s.regs.hl) s.regs.f)

/-- `RES b,r` (R232): no flag changes. -/
def resReg (b : Oct) (r : Reg8) (s : State) : State := s.setReg8 r (resByte b (s.regs.get8 r))

/-- `RES b,(HL)` (R233): a read M-cycle and a write M-cycle. -/
def resMemHl (b : Oct) (s : State) : State :=
  memWrite s.regs.hl (resByte b (cpuRead s s.regs.hl)) (memRead s.regs.hl s)

/-- `SET b,r` (R234): no flag changes. -/
def setReg (b : Oct) (r : Reg8) (s : State) : State := s.setReg8 r (setByte b (s.regs.get8 r))

/-- `SET b,(HL)` (R235): a read M-cycle and a write M-cycle. -/
def setMemHl (b : Oct) (s : State) : State :=
  memWrite s.regs.hl (setByte b (cpuRead s s.regs.hl)) (memRead s.regs.hl s)

/-! ## The rows -/

/-! `BIT b,r` (R230). -/

def execBit0B (s : State) : Result := .next (bitReg .o0 .b s)
def execBit0C (s : State) : Result := .next (bitReg .o0 .c s)
def execBit0D (s : State) : Result := .next (bitReg .o0 .d s)
def execBit0E (s : State) : Result := .next (bitReg .o0 .e s)
def execBit0H (s : State) : Result := .next (bitReg .o0 .h s)
def execBit0L (s : State) : Result := .next (bitReg .o0 .l s)
def execBit0A (s : State) : Result := .next (bitReg .o0 .a s)
def execBit1B (s : State) : Result := .next (bitReg .o1 .b s)
def execBit1C (s : State) : Result := .next (bitReg .o1 .c s)
def execBit1D (s : State) : Result := .next (bitReg .o1 .d s)
def execBit1E (s : State) : Result := .next (bitReg .o1 .e s)
def execBit1H (s : State) : Result := .next (bitReg .o1 .h s)
def execBit1L (s : State) : Result := .next (bitReg .o1 .l s)
def execBit1A (s : State) : Result := .next (bitReg .o1 .a s)
def execBit2B (s : State) : Result := .next (bitReg .o2 .b s)
def execBit2C (s : State) : Result := .next (bitReg .o2 .c s)
def execBit2D (s : State) : Result := .next (bitReg .o2 .d s)
def execBit2E (s : State) : Result := .next (bitReg .o2 .e s)
def execBit2H (s : State) : Result := .next (bitReg .o2 .h s)
def execBit2L (s : State) : Result := .next (bitReg .o2 .l s)
def execBit2A (s : State) : Result := .next (bitReg .o2 .a s)
def execBit3B (s : State) : Result := .next (bitReg .o3 .b s)
def execBit3C (s : State) : Result := .next (bitReg .o3 .c s)
def execBit3D (s : State) : Result := .next (bitReg .o3 .d s)
def execBit3E (s : State) : Result := .next (bitReg .o3 .e s)
def execBit3H (s : State) : Result := .next (bitReg .o3 .h s)
def execBit3L (s : State) : Result := .next (bitReg .o3 .l s)
def execBit3A (s : State) : Result := .next (bitReg .o3 .a s)
def execBit4B (s : State) : Result := .next (bitReg .o4 .b s)
def execBit4C (s : State) : Result := .next (bitReg .o4 .c s)
def execBit4D (s : State) : Result := .next (bitReg .o4 .d s)
def execBit4E (s : State) : Result := .next (bitReg .o4 .e s)
def execBit4H (s : State) : Result := .next (bitReg .o4 .h s)
def execBit4L (s : State) : Result := .next (bitReg .o4 .l s)
def execBit4A (s : State) : Result := .next (bitReg .o4 .a s)
def execBit5B (s : State) : Result := .next (bitReg .o5 .b s)
def execBit5C (s : State) : Result := .next (bitReg .o5 .c s)
def execBit5D (s : State) : Result := .next (bitReg .o5 .d s)
def execBit5E (s : State) : Result := .next (bitReg .o5 .e s)
def execBit5H (s : State) : Result := .next (bitReg .o5 .h s)
def execBit5L (s : State) : Result := .next (bitReg .o5 .l s)
def execBit5A (s : State) : Result := .next (bitReg .o5 .a s)
def execBit6B (s : State) : Result := .next (bitReg .o6 .b s)
def execBit6C (s : State) : Result := .next (bitReg .o6 .c s)
def execBit6D (s : State) : Result := .next (bitReg .o6 .d s)
def execBit6E (s : State) : Result := .next (bitReg .o6 .e s)
def execBit6H (s : State) : Result := .next (bitReg .o6 .h s)
def execBit6L (s : State) : Result := .next (bitReg .o6 .l s)
def execBit6A (s : State) : Result := .next (bitReg .o6 .a s)
def execBit7B (s : State) : Result := .next (bitReg .o7 .b s)
def execBit7C (s : State) : Result := .next (bitReg .o7 .c s)
def execBit7D (s : State) : Result := .next (bitReg .o7 .d s)
def execBit7E (s : State) : Result := .next (bitReg .o7 .e s)
def execBit7H (s : State) : Result := .next (bitReg .o7 .h s)
def execBit7L (s : State) : Result := .next (bitReg .o7 .l s)
def execBit7A (s : State) : Result := .next (bitReg .o7 .a s)

/-! `BIT b,(HL)` (R231). -/

def execBit0MemHl (s : State) : Result := .next (bitMemHl .o0 s)
def execBit1MemHl (s : State) : Result := .next (bitMemHl .o1 s)
def execBit2MemHl (s : State) : Result := .next (bitMemHl .o2 s)
def execBit3MemHl (s : State) : Result := .next (bitMemHl .o3 s)
def execBit4MemHl (s : State) : Result := .next (bitMemHl .o4 s)
def execBit5MemHl (s : State) : Result := .next (bitMemHl .o5 s)
def execBit6MemHl (s : State) : Result := .next (bitMemHl .o6 s)
def execBit7MemHl (s : State) : Result := .next (bitMemHl .o7 s)

/-! `RES b,r` (R232). -/

def execRes0B (s : State) : Result := .next (resReg .o0 .b s)
def execRes0C (s : State) : Result := .next (resReg .o0 .c s)
def execRes0D (s : State) : Result := .next (resReg .o0 .d s)
def execRes0E (s : State) : Result := .next (resReg .o0 .e s)
def execRes0H (s : State) : Result := .next (resReg .o0 .h s)
def execRes0L (s : State) : Result := .next (resReg .o0 .l s)
def execRes0A (s : State) : Result := .next (resReg .o0 .a s)
def execRes1B (s : State) : Result := .next (resReg .o1 .b s)
def execRes1C (s : State) : Result := .next (resReg .o1 .c s)
def execRes1D (s : State) : Result := .next (resReg .o1 .d s)
def execRes1E (s : State) : Result := .next (resReg .o1 .e s)
def execRes1H (s : State) : Result := .next (resReg .o1 .h s)
def execRes1L (s : State) : Result := .next (resReg .o1 .l s)
def execRes1A (s : State) : Result := .next (resReg .o1 .a s)
def execRes2B (s : State) : Result := .next (resReg .o2 .b s)
def execRes2C (s : State) : Result := .next (resReg .o2 .c s)
def execRes2D (s : State) : Result := .next (resReg .o2 .d s)
def execRes2E (s : State) : Result := .next (resReg .o2 .e s)
def execRes2H (s : State) : Result := .next (resReg .o2 .h s)
def execRes2L (s : State) : Result := .next (resReg .o2 .l s)
def execRes2A (s : State) : Result := .next (resReg .o2 .a s)
def execRes3B (s : State) : Result := .next (resReg .o3 .b s)
def execRes3C (s : State) : Result := .next (resReg .o3 .c s)
def execRes3D (s : State) : Result := .next (resReg .o3 .d s)
def execRes3E (s : State) : Result := .next (resReg .o3 .e s)
def execRes3H (s : State) : Result := .next (resReg .o3 .h s)
def execRes3L (s : State) : Result := .next (resReg .o3 .l s)
def execRes3A (s : State) : Result := .next (resReg .o3 .a s)
def execRes4B (s : State) : Result := .next (resReg .o4 .b s)
def execRes4C (s : State) : Result := .next (resReg .o4 .c s)
def execRes4D (s : State) : Result := .next (resReg .o4 .d s)
def execRes4E (s : State) : Result := .next (resReg .o4 .e s)
def execRes4H (s : State) : Result := .next (resReg .o4 .h s)
def execRes4L (s : State) : Result := .next (resReg .o4 .l s)
def execRes4A (s : State) : Result := .next (resReg .o4 .a s)
def execRes5B (s : State) : Result := .next (resReg .o5 .b s)
def execRes5C (s : State) : Result := .next (resReg .o5 .c s)
def execRes5D (s : State) : Result := .next (resReg .o5 .d s)
def execRes5E (s : State) : Result := .next (resReg .o5 .e s)
def execRes5H (s : State) : Result := .next (resReg .o5 .h s)
def execRes5L (s : State) : Result := .next (resReg .o5 .l s)
def execRes5A (s : State) : Result := .next (resReg .o5 .a s)
def execRes6B (s : State) : Result := .next (resReg .o6 .b s)
def execRes6C (s : State) : Result := .next (resReg .o6 .c s)
def execRes6D (s : State) : Result := .next (resReg .o6 .d s)
def execRes6E (s : State) : Result := .next (resReg .o6 .e s)
def execRes6H (s : State) : Result := .next (resReg .o6 .h s)
def execRes6L (s : State) : Result := .next (resReg .o6 .l s)
def execRes6A (s : State) : Result := .next (resReg .o6 .a s)
def execRes7B (s : State) : Result := .next (resReg .o7 .b s)
def execRes7C (s : State) : Result := .next (resReg .o7 .c s)
def execRes7D (s : State) : Result := .next (resReg .o7 .d s)
def execRes7E (s : State) : Result := .next (resReg .o7 .e s)
def execRes7H (s : State) : Result := .next (resReg .o7 .h s)
def execRes7L (s : State) : Result := .next (resReg .o7 .l s)
def execRes7A (s : State) : Result := .next (resReg .o7 .a s)

/-! `RES b,(HL)` (R233). -/

def execRes0MemHl (s : State) : Result := .next (resMemHl .o0 s)
def execRes1MemHl (s : State) : Result := .next (resMemHl .o1 s)
def execRes2MemHl (s : State) : Result := .next (resMemHl .o2 s)
def execRes3MemHl (s : State) : Result := .next (resMemHl .o3 s)
def execRes4MemHl (s : State) : Result := .next (resMemHl .o4 s)
def execRes5MemHl (s : State) : Result := .next (resMemHl .o5 s)
def execRes6MemHl (s : State) : Result := .next (resMemHl .o6 s)
def execRes7MemHl (s : State) : Result := .next (resMemHl .o7 s)

/-! `SET b,r` (R234). -/

def execSet0B (s : State) : Result := .next (setReg .o0 .b s)
def execSet0C (s : State) : Result := .next (setReg .o0 .c s)
def execSet0D (s : State) : Result := .next (setReg .o0 .d s)
def execSet0E (s : State) : Result := .next (setReg .o0 .e s)
def execSet0H (s : State) : Result := .next (setReg .o0 .h s)
def execSet0L (s : State) : Result := .next (setReg .o0 .l s)
def execSet0A (s : State) : Result := .next (setReg .o0 .a s)
def execSet1B (s : State) : Result := .next (setReg .o1 .b s)
def execSet1C (s : State) : Result := .next (setReg .o1 .c s)
def execSet1D (s : State) : Result := .next (setReg .o1 .d s)
def execSet1E (s : State) : Result := .next (setReg .o1 .e s)
def execSet1H (s : State) : Result := .next (setReg .o1 .h s)
def execSet1L (s : State) : Result := .next (setReg .o1 .l s)
def execSet1A (s : State) : Result := .next (setReg .o1 .a s)
def execSet2B (s : State) : Result := .next (setReg .o2 .b s)
def execSet2C (s : State) : Result := .next (setReg .o2 .c s)
def execSet2D (s : State) : Result := .next (setReg .o2 .d s)
def execSet2E (s : State) : Result := .next (setReg .o2 .e s)
def execSet2H (s : State) : Result := .next (setReg .o2 .h s)
def execSet2L (s : State) : Result := .next (setReg .o2 .l s)
def execSet2A (s : State) : Result := .next (setReg .o2 .a s)
def execSet3B (s : State) : Result := .next (setReg .o3 .b s)
def execSet3C (s : State) : Result := .next (setReg .o3 .c s)
def execSet3D (s : State) : Result := .next (setReg .o3 .d s)
def execSet3E (s : State) : Result := .next (setReg .o3 .e s)
def execSet3H (s : State) : Result := .next (setReg .o3 .h s)
def execSet3L (s : State) : Result := .next (setReg .o3 .l s)
def execSet3A (s : State) : Result := .next (setReg .o3 .a s)
def execSet4B (s : State) : Result := .next (setReg .o4 .b s)
def execSet4C (s : State) : Result := .next (setReg .o4 .c s)
def execSet4D (s : State) : Result := .next (setReg .o4 .d s)
def execSet4E (s : State) : Result := .next (setReg .o4 .e s)
def execSet4H (s : State) : Result := .next (setReg .o4 .h s)
def execSet4L (s : State) : Result := .next (setReg .o4 .l s)
def execSet4A (s : State) : Result := .next (setReg .o4 .a s)
def execSet5B (s : State) : Result := .next (setReg .o5 .b s)
def execSet5C (s : State) : Result := .next (setReg .o5 .c s)
def execSet5D (s : State) : Result := .next (setReg .o5 .d s)
def execSet5E (s : State) : Result := .next (setReg .o5 .e s)
def execSet5H (s : State) : Result := .next (setReg .o5 .h s)
def execSet5L (s : State) : Result := .next (setReg .o5 .l s)
def execSet5A (s : State) : Result := .next (setReg .o5 .a s)
def execSet6B (s : State) : Result := .next (setReg .o6 .b s)
def execSet6C (s : State) : Result := .next (setReg .o6 .c s)
def execSet6D (s : State) : Result := .next (setReg .o6 .d s)
def execSet6E (s : State) : Result := .next (setReg .o6 .e s)
def execSet6H (s : State) : Result := .next (setReg .o6 .h s)
def execSet6L (s : State) : Result := .next (setReg .o6 .l s)
def execSet6A (s : State) : Result := .next (setReg .o6 .a s)
def execSet7B (s : State) : Result := .next (setReg .o7 .b s)
def execSet7C (s : State) : Result := .next (setReg .o7 .c s)
def execSet7D (s : State) : Result := .next (setReg .o7 .d s)
def execSet7E (s : State) : Result := .next (setReg .o7 .e s)
def execSet7H (s : State) : Result := .next (setReg .o7 .h s)
def execSet7L (s : State) : Result := .next (setReg .o7 .l s)
def execSet7A (s : State) : Result := .next (setReg .o7 .a s)

/-! `SET b,(HL)` (R235). -/

def execSet0MemHl (s : State) : Result := .next (setMemHl .o0 s)
def execSet1MemHl (s : State) : Result := .next (setMemHl .o1 s)
def execSet2MemHl (s : State) : Result := .next (setMemHl .o2 s)
def execSet3MemHl (s : State) : Result := .next (setMemHl .o3 s)
def execSet4MemHl (s : State) : Result := .next (setMemHl .o4 s)
def execSet5MemHl (s : State) : Result := .next (setMemHl .o5 s)
def execSet6MemHl (s : State) : Result := .next (setMemHl .o6 s)
def execSet7MemHl (s : State) : Result := .next (setMemHl .o7 s)

end Sys2Proof.Machine
end

