-- ==== Sys2Proof/Machine/Control.lean ====
section
/-! DEFINITION. The control transfers (R240 to R251). PC is already past the instruction's bytes (R25). -/

namespace Sys2Proof.Machine

/-! ## Shared operations -/

/-- `Internal(); PC <- nn` (R241). -/
def jp (nn : Word) (s : State) : State := (internal s).setPc nn

/-- `JP cc,nn` (R242). -/
def jpCond (cc : Cond) (nn : Word) (s : State) : State := if s.regs.f.holds cc then jp nn s else s

/-- `PC <- HL` (R243): no memory is read. -/
def jpHl (s : State) : State := s.setPc s.regs.hl

/-- `Internal(); PC <- PC + sext_16(e)` (R244). -/
def jr (e : Byte) (s : State) : State := (internal s).setPc (s.regs.pc + sext16 e)

/-- `JR cc,e8` (R245). -/
def jrCond (cc : Cond) (e : Byte) (s : State) : State := if s.regs.f.holds cc then jr e s else s

/-- `Internal(); Push16(PC); PC <- nn` (R246). -/
def call (nn : Word) (s : State) : State := (push16 s.regs.pc (internal s)).setPc nn

/-- `CALL cc,nn` (R247). -/
def callCond (cc : Cond) (nn : Word) (s : State) : State := if s.regs.f.holds cc then call nn s else s

/-- `PC <- Pop16(); Internal()` (R248). -/
def ret (s : State) : State := internal ((pop16 s).setPc (popWord s))

/-- `RET cc` (R249): the internal M-cycle comes first, taken or not. -/
def retCond (cc : Cond) (s : State) : State :=
  let s' := internal s
  if s'.regs.f.holds cc then ret s' else s'

/-- `RETI` (R250). -/
def reti (s : State) : State := returnFromInterrupt s

/-- `Internal(); Push16(PC); PC <- zext_16(ttt) · 8` (R251). -/
def rst (t : Oct) (s : State) : State := call (rstTarget t) s

/-! ## The rows -/

/-! `JP nn` (R241). -/

def execJpNn (nn : Word) (s : State) : Result := .next (jp nn s)

/-! `JP cc,nn` (R242). -/

def execJpNzNn (nn : Word) (s : State) : Result := .next (jpCond .nz nn s)
def execJpZNn (nn : Word) (s : State) : Result := .next (jpCond .z nn s)
def execJpNcNn (nn : Word) (s : State) : Result := .next (jpCond .nc nn s)
def execJpCNn (nn : Word) (s : State) : Result := .next (jpCond .c nn s)

/-! `JP HL` (R243). -/

def execJpHl (s : State) : Result := .next (jpHl s)

/-! `JR e8` (R244). -/

def execJrE8 (e : Byte) (s : State) : Result := .next (jr e s)

/-! `JR cc,e8` (R245). -/

def execJrNzE8 (e : Byte) (s : State) : Result := .next (jrCond .nz e s)
def execJrZE8 (e : Byte) (s : State) : Result := .next (jrCond .z e s)
def execJrNcE8 (e : Byte) (s : State) : Result := .next (jrCond .nc e s)
def execJrCE8 (e : Byte) (s : State) : Result := .next (jrCond .c e s)

/-! `CALL nn` (R246). -/

def execCallNn (nn : Word) (s : State) : Result := .next (call nn s)

/-! `CALL cc,nn` (R247). -/

def execCallNzNn (nn : Word) (s : State) : Result := .next (callCond .nz nn s)
def execCallZNn (nn : Word) (s : State) : Result := .next (callCond .z nn s)
def execCallNcNn (nn : Word) (s : State) : Result := .next (callCond .nc nn s)
def execCallCNn (nn : Word) (s : State) : Result := .next (callCond .c nn s)

/-! `RET` (R248). -/

def execRet (s : State) : Result := .next (ret s)

/-! `RET cc` (R249). -/

def execRetNz (s : State) : Result := .next (retCond .nz s)
def execRetZ (s : State) : Result := .next (retCond .z s)
def execRetNc (s : State) : Result := .next (retCond .nc s)
def execRetC (s : State) : Result := .next (retCond .c s)

/-! `RETI` (R250). -/

def execReti (s : State) : Result := .next (reti s)

/-! `RST t` (R251). -/

def execRst00 (s : State) : Result := .next (rst .o0 s)
def execRst08 (s : State) : Result := .next (rst .o1 s)
def execRst10 (s : State) : Result := .next (rst .o2 s)
def execRst18 (s : State) : Result := .next (rst .o3 s)
def execRst20 (s : State) : Result := .next (rst .o4 s)
def execRst28 (s : State) : Result := .next (rst .o5 s)
def execRst30 (s : State) : Result := .next (rst .o6 s)
def execRst38 (s : State) : Result := .next (rst .o7 s)

end Sys2Proof.Machine
end

