-- ==== Sys2Proof/Machine/Load16.lean ====
section
/-! DEFINITION. The 16-bit loads and the stack transfers (R150 to R155). -/

namespace Sys2Proof.Machine

/-! ## Shared operations -/

/-- `reg16[dd] <- nn` (R150). -/
def ldReg16Imm (rr : Reg16) (nn : Word) (s : State) : State := s.setReg16 rr nn

/-- `LD (nn),SP` (R151): the low byte at nn, the high byte at nn + 1. -/
def ldMemNnSp (nn : Word) (s : State) : State :=
  let s' := memWrite nn (loByte s.regs.sp) s
  memWrite (nn + 1) (hiByte s'.regs.sp) s'

/-- `Internal(); SP <- HL` (R152). -/
def ldSpHl (s : State) : State := (internal s).setSp s.regs.hl

/-- `Internal(); Push16(reg16s[qq])` (R153). -/
def push (qq : StackReg) (s : State) : State := push16 (s.regs.getStack qq) (internal s)

/-- `reg16s[qq] <- Pop16()` (R154). -/
def pop (qq : StackReg) (s : State) : State := (pop16 s).setStack qq (popWord s)

/-- `LD HL,SP+e8` (R155): HL gets the sum, Z and N are cleared, Hf and Cy are those of the low-byte addition. -/
def ldHlSp (e : Byte) (s : State) : State :=
  ((internal s).setReg16 .hl (addSpE s.regs.sp e)).setFlags (addSpEFlags s.regs.sp e)

/-! ## The rows -/

/-! `LD rr,nn` (R150). -/

def execLdBcNn (nn : Word) (s : State) : Result := .next (ldReg16Imm .bc nn s)
def execLdDeNn (nn : Word) (s : State) : Result := .next (ldReg16Imm .de nn s)
def execLdHlNn (nn : Word) (s : State) : Result := .next (ldReg16Imm .hl nn s)
def execLdSpNn (nn : Word) (s : State) : Result := .next (ldReg16Imm .sp nn s)

/-! `LD (nn),SP` (R151). -/

def execLdMemNnSp (nn : Word) (s : State) : Result := .next (ldMemNnSp nn s)

/-! `LD SP,HL` (R152). -/

def execLdSpHl (s : State) : Result := .next (ldSpHl s)

/-! `PUSH qq` (R153). -/

def execPushBc (s : State) : Result := .next (push .bc s)
def execPushDe (s : State) : Result := .next (push .de s)
def execPushHl (s : State) : Result := .next (push .hl s)
def execPushAf (s : State) : Result := .next (push .af s)

/-! `POP qq` (R154). -/

def execPopBc (s : State) : Result := .next (pop .bc s)
def execPopDe (s : State) : Result := .next (pop .de s)
def execPopHl (s : State) : Result := .next (pop .hl s)
def execPopAf (s : State) : Result := .next (pop .af s)

/-! `LD HL,SP+e8` (R155). -/

def execLdHlSpE8 (e : Byte) (s : State) : Result := .next (ldHlSp e s)

end Sys2Proof.Machine
end

