-- ==== Sys2Proof/Machine/Load8.lean ====
section
/-! DEFINITION. The 8-bit loads (R130 to R148). No load writes a flag. -/

namespace Sys2Proof.Machine

/-! ## Shared operations -/

/-- `reg8[d] <- reg8[s]` (R130). -/
def ldRegReg (dst src : Reg8) (s : State) : State := s.setReg8 dst (s.regs.get8 src)

/-- `reg8[r] <- n` (R131). -/
def ldRegImm (r : Reg8) (n : Byte) (s : State) : State := s.setReg8 r n

/-- `reg8[r] <- MemRead(a, 1)` (R132 and the loads of A). -/
def ldRegMem (r : Reg8) (a : Word) (s : State) : State := (memRead a s).setReg8 r (cpuRead s a)

/-- `LD r,(HL)` (R132). -/
def ldRegMemHl (r : Reg8) (s : State) : State := ldRegMem r s.regs.hl s

/-- `LD (HL),r` (R133). -/
def ldMemHlReg (r : Reg8) (s : State) : State := memWrite s.regs.hl (s.regs.get8 r) s

/-- `LD (HL),n` (R134). -/
def ldMemHlImm (n : Byte) (s : State) : State := memWrite s.regs.hl n s

/-- `LD A,(BC)` and `LD A,(DE)` (R135, R136). -/
def loadA (p : Reg16) (s : State) : State := ldRegMem .a (s.regs.get16 p) s

/-- `LD (BC),A` and `LD (DE),A` (R137, R138). -/
def storeA (p : Reg16) (s : State) : State := memWrite (s.regs.get16 p) s.regs.a s

/-- `A <- MemRead(nn, 1)` (R139). -/
def ldAbsLoad (nn : Word) (s : State) : State := ldRegMem .a nn s

/-- `MemWrite(nn, 1, A)` (R140). -/
def ldAbsStore (nn : Word) (s : State) : State := memWrite nn s.regs.a s

/-- `LDH A,(C)` (R141). -/
def ldhLoadC (s : State) : State := ldRegMem .a (highPage s.regs.c) s

/-- `LDH (C),A` (R142). -/
def ldhStoreC (s : State) : State := memWrite (highPage s.regs.c) s.regs.a s

/-- `LDH A,(n)` (R143). -/
def ldhLoadImm (n : Byte) (s : State) : State := ldRegMem .a (highPage n) s

/-- `LDH (n),A` (R144). -/
def ldhStoreImm (n : Byte) (s : State) : State := memWrite (highPage n) s.regs.a s

/-- `HL <- HL + k`, after the access of the HL+ and HL− forms (R145 to R148). -/
def stepHl (k : Word) (s : State) : State := s.setReg16 .hl (s.regs.hl + k)

/-- `LD A,(HL-)` (R145). -/
def loadAHlDec (s : State) : State := stepHl (-1) (ldRegMemHl .a s)

/-- `LD (HL-),A` (R146): HL moves even when the write is dropped. -/
def storeAHlDec (s : State) : State := stepHl (-1) (ldMemHlReg .a s)

/-- `LD A,(HL+)` (R147). -/
def loadAHlInc (s : State) : State := stepHl 1 (ldRegMemHl .a s)

/-- `LD (HL+),A` (R148). -/
def storeAHlInc (s : State) : State := stepHl 1 (ldMemHlReg .a s)

/-! ## The rows -/

/-! `LD r,r'` (R130). -/

def execLdBB (s : State) : Result := .next (ldRegReg .b .b s)
def execLdBC (s : State) : Result := .next (ldRegReg .b .c s)
def execLdBD (s : State) : Result := .next (ldRegReg .b .d s)
def execLdBE (s : State) : Result := .next (ldRegReg .b .e s)
def execLdBH (s : State) : Result := .next (ldRegReg .b .h s)
def execLdBL (s : State) : Result := .next (ldRegReg .b .l s)
def execLdBA (s : State) : Result := .next (ldRegReg .b .a s)
def execLdCB (s : State) : Result := .next (ldRegReg .c .b s)
def execLdCC (s : State) : Result := .next (ldRegReg .c .c s)
def execLdCD (s : State) : Result := .next (ldRegReg .c .d s)
def execLdCE (s : State) : Result := .next (ldRegReg .c .e s)
def execLdCH (s : State) : Result := .next (ldRegReg .c .h s)
def execLdCL (s : State) : Result := .next (ldRegReg .c .l s)
def execLdCA (s : State) : Result := .next (ldRegReg .c .a s)
def execLdDB (s : State) : Result := .next (ldRegReg .d .b s)
def execLdDC (s : State) : Result := .next (ldRegReg .d .c s)
def execLdDD (s : State) : Result := .next (ldRegReg .d .d s)
def execLdDE (s : State) : Result := .next (ldRegReg .d .e s)
def execLdDH (s : State) : Result := .next (ldRegReg .d .h s)
def execLdDL (s : State) : Result := .next (ldRegReg .d .l s)
def execLdDA (s : State) : Result := .next (ldRegReg .d .a s)
def execLdEB (s : State) : Result := .next (ldRegReg .e .b s)
def execLdEC (s : State) : Result := .next (ldRegReg .e .c s)
def execLdED (s : State) : Result := .next (ldRegReg .e .d s)
def execLdEE (s : State) : Result := .next (ldRegReg .e .e s)
def execLdEH (s : State) : Result := .next (ldRegReg .e .h s)
def execLdEL (s : State) : Result := .next (ldRegReg .e .l s)
def execLdEA (s : State) : Result := .next (ldRegReg .e .a s)
def execLdHB (s : State) : Result := .next (ldRegReg .h .b s)
def execLdHC (s : State) : Result := .next (ldRegReg .h .c s)
def execLdHD (s : State) : Result := .next (ldRegReg .h .d s)
def execLdHE (s : State) : Result := .next (ldRegReg .h .e s)
def execLdHH (s : State) : Result := .next (ldRegReg .h .h s)
def execLdHL (s : State) : Result := .next (ldRegReg .h .l s)
def execLdHA (s : State) : Result := .next (ldRegReg .h .a s)
def execLdLB (s : State) : Result := .next (ldRegReg .l .b s)
def execLdLC (s : State) : Result := .next (ldRegReg .l .c s)
def execLdLD (s : State) : Result := .next (ldRegReg .l .d s)
def execLdLE (s : State) : Result := .next (ldRegReg .l .e s)
def execLdLH (s : State) : Result := .next (ldRegReg .l .h s)
def execLdLL (s : State) : Result := .next (ldRegReg .l .l s)
def execLdLA (s : State) : Result := .next (ldRegReg .l .a s)
def execLdAB (s : State) : Result := .next (ldRegReg .a .b s)
def execLdAC (s : State) : Result := .next (ldRegReg .a .c s)
def execLdAD (s : State) : Result := .next (ldRegReg .a .d s)
def execLdAE (s : State) : Result := .next (ldRegReg .a .e s)
def execLdAH (s : State) : Result := .next (ldRegReg .a .h s)
def execLdAL (s : State) : Result := .next (ldRegReg .a .l s)
def execLdAA (s : State) : Result := .next (ldRegReg .a .a s)

/-! `LD r,n` (R131). -/

def execLdBN (n : Byte) (s : State) : Result := .next (ldRegImm .b n s)
def execLdCN (n : Byte) (s : State) : Result := .next (ldRegImm .c n s)
def execLdDN (n : Byte) (s : State) : Result := .next (ldRegImm .d n s)
def execLdEN (n : Byte) (s : State) : Result := .next (ldRegImm .e n s)
def execLdHN (n : Byte) (s : State) : Result := .next (ldRegImm .h n s)
def execLdLN (n : Byte) (s : State) : Result := .next (ldRegImm .l n s)
def execLdAN (n : Byte) (s : State) : Result := .next (ldRegImm .a n s)

/-! `LD r,(HL)` (R132). -/

def execLdBMemHl (s : State) : Result := .next (ldRegMemHl .b s)
def execLdCMemHl (s : State) : Result := .next (ldRegMemHl .c s)
def execLdDMemHl (s : State) : Result := .next (ldRegMemHl .d s)
def execLdEMemHl (s : State) : Result := .next (ldRegMemHl .e s)
def execLdHMemHl (s : State) : Result := .next (ldRegMemHl .h s)
def execLdLMemHl (s : State) : Result := .next (ldRegMemHl .l s)
def execLdAMemHl (s : State) : Result := .next (ldRegMemHl .a s)

/-! `LD (HL),r` (R133). -/

def execLdMemHlB (s : State) : Result := .next (ldMemHlReg .b s)
def execLdMemHlC (s : State) : Result := .next (ldMemHlReg .c s)
def execLdMemHlD (s : State) : Result := .next (ldMemHlReg .d s)
def execLdMemHlE (s : State) : Result := .next (ldMemHlReg .e s)
def execLdMemHlH (s : State) : Result := .next (ldMemHlReg .h s)
def execLdMemHlL (s : State) : Result := .next (ldMemHlReg .l s)
def execLdMemHlA (s : State) : Result := .next (ldMemHlReg .a s)

/-! `LD (HL),n` (R134). -/

def execLdMemHlN (n : Byte) (s : State) : Result := .next (ldMemHlImm n s)

/-! `LD A,(BC)` (R135). -/

def execLdAMemBc (s : State) : Result := .next (loadA .bc s)

/-! `LD A,(DE)` (R136). -/

def execLdAMemDe (s : State) : Result := .next (loadA .de s)

/-! `LD (BC),A` (R137). -/

def execLdMemBcA (s : State) : Result := .next (storeA .bc s)

/-! `LD (DE),A` (R138). -/

def execLdMemDeA (s : State) : Result := .next (storeA .de s)

/-! `LD A,(nn)` (R139). -/

def execLdAMemNn (nn : Word) (s : State) : Result := .next (ldAbsLoad nn s)

/-! `LD (nn),A` (R140). -/

def execLdMemNnA (nn : Word) (s : State) : Result := .next (ldAbsStore nn s)

/-! `LDH A,(C)` (R141). -/

def execLdhAMemC (s : State) : Result := .next (ldhLoadC s)

/-! `LDH (C),A` (R142). -/

def execLdhMemCA (s : State) : Result := .next (ldhStoreC s)

/-! `LDH A,(n)` (R143). -/

def execLdhAMemN (n : Byte) (s : State) : Result := .next (ldhLoadImm n s)

/-! `LDH (n),A` (R144). -/

def execLdhMemNA (n : Byte) (s : State) : Result := .next (ldhStoreImm n s)

/-! `LD A,(HL-)` (R145). -/

def execLdAMemHlDec (s : State) : Result := .next (loadAHlDec s)

/-! `LD (HL-),A` (R146). -/

def execLdMemHlDecA (s : State) : Result := .next (storeAHlDec s)

/-! `LD A,(HL+)` (R147). -/

def execLdAMemHlInc (s : State) : Result := .next (loadAHlInc s)

/-! `LD (HL+),A` (R148). -/

def execLdMemHlIncA (s : State) : Result := .next (storeAHlInc s)

end Sys2Proof.Machine
end

