-- ==== Sys2Proof/Machine/Rotate.lean ====
section
/-! DEFINITION. The rotates and shifts (R210 to R229). -/

namespace Sys2Proof.Machine

/-! ## Shared operations -/

/-- RLCA, RRCA, RLA and RRA (R210 to R213): Z is cleared. -/
def rotateA (op : ShiftOp) (s : State) : State := s.setAcc (rotateAByte op s.regs.a s.regs.f)

/-- A CB rotate or shift of a register (R214, R216, R218, R220, R222, R224, R226, R228). -/
def shiftReg (op : ShiftOp) (r : Reg8) (s : State) : State :=
  s.setRegOut r (shiftByte op (s.regs.get8 r) s.regs.f)

/-- A CB rotate or shift of `(HL)` (R215, R217, R219, R221, R223, R225, R227, R229). -/
def shiftMemHl (op : ShiftOp) (s : State) : State := modifyMemHl (shiftByte op) s

/-! ## The rows -/

/-! `RLCA` (R210). -/

def execRlca (s : State) : Result := .next (rotateA .rlc s)

/-! `RRCA` (R211). -/

def execRrca (s : State) : Result := .next (rotateA .rrc s)

/-! `RLA` (R212). -/

def execRla (s : State) : Result := .next (rotateA .rl s)

/-! `RRA` (R213). -/

def execRra (s : State) : Result := .next (rotateA .rr s)

/-! `RLC r` (R214). -/

def execRlcB (s : State) : Result := .next (shiftReg .rlc .b s)
def execRlcC (s : State) : Result := .next (shiftReg .rlc .c s)
def execRlcD (s : State) : Result := .next (shiftReg .rlc .d s)
def execRlcE (s : State) : Result := .next (shiftReg .rlc .e s)
def execRlcH (s : State) : Result := .next (shiftReg .rlc .h s)
def execRlcL (s : State) : Result := .next (shiftReg .rlc .l s)
def execRlcA (s : State) : Result := .next (shiftReg .rlc .a s)

/-! `RLC (HL)` (R215). -/

def execRlcMemHl (s : State) : Result := .next (shiftMemHl .rlc s)

/-! `RRC r` (R216). -/

def execRrcB (s : State) : Result := .next (shiftReg .rrc .b s)
def execRrcC (s : State) : Result := .next (shiftReg .rrc .c s)
def execRrcD (s : State) : Result := .next (shiftReg .rrc .d s)
def execRrcE (s : State) : Result := .next (shiftReg .rrc .e s)
def execRrcH (s : State) : Result := .next (shiftReg .rrc .h s)
def execRrcL (s : State) : Result := .next (shiftReg .rrc .l s)
def execRrcA (s : State) : Result := .next (shiftReg .rrc .a s)

/-! `RRC (HL)` (R217). -/

def execRrcMemHl (s : State) : Result := .next (shiftMemHl .rrc s)

/-! `RL r` (R218). -/

def execRlB (s : State) : Result := .next (shiftReg .rl .b s)
def execRlC (s : State) : Result := .next (shiftReg .rl .c s)
def execRlD (s : State) : Result := .next (shiftReg .rl .d s)
def execRlE (s : State) : Result := .next (shiftReg .rl .e s)
def execRlH (s : State) : Result := .next (shiftReg .rl .h s)
def execRlL (s : State) : Result := .next (shiftReg .rl .l s)
def execRlA (s : State) : Result := .next (shiftReg .rl .a s)

/-! `RL (HL)` (R219). -/

def execRlMemHl (s : State) : Result := .next (shiftMemHl .rl s)

/-! `RR r` (R220). -/

def execRrB (s : State) : Result := .next (shiftReg .rr .b s)
def execRrC (s : State) : Result := .next (shiftReg .rr .c s)
def execRrD (s : State) : Result := .next (shiftReg .rr .d s)
def execRrE (s : State) : Result := .next (shiftReg .rr .e s)
def execRrH (s : State) : Result := .next (shiftReg .rr .h s)
def execRrL (s : State) : Result := .next (shiftReg .rr .l s)
def execRrA (s : State) : Result := .next (shiftReg .rr .a s)

/-! `RR (HL)` (R221). -/

def execRrMemHl (s : State) : Result := .next (shiftMemHl .rr s)

/-! `SLA r` (R222). -/

def execSlaB (s : State) : Result := .next (shiftReg .sla .b s)
def execSlaC (s : State) : Result := .next (shiftReg .sla .c s)
def execSlaD (s : State) : Result := .next (shiftReg .sla .d s)
def execSlaE (s : State) : Result := .next (shiftReg .sla .e s)
def execSlaH (s : State) : Result := .next (shiftReg .sla .h s)
def execSlaL (s : State) : Result := .next (shiftReg .sla .l s)
def execSlaA (s : State) : Result := .next (shiftReg .sla .a s)

/-! `SLA (HL)` (R223). -/

def execSlaMemHl (s : State) : Result := .next (shiftMemHl .sla s)

/-! `SRA r` (R224). -/

def execSraB (s : State) : Result := .next (shiftReg .sra .b s)
def execSraC (s : State) : Result := .next (shiftReg .sra .c s)
def execSraD (s : State) : Result := .next (shiftReg .sra .d s)
def execSraE (s : State) : Result := .next (shiftReg .sra .e s)
def execSraH (s : State) : Result := .next (shiftReg .sra .h s)
def execSraL (s : State) : Result := .next (shiftReg .sra .l s)
def execSraA (s : State) : Result := .next (shiftReg .sra .a s)

/-! `SRA (HL)` (R225). -/

def execSraMemHl (s : State) : Result := .next (shiftMemHl .sra s)

/-! `SWAP r` (R226). -/

def execSwapB (s : State) : Result := .next (shiftReg .swap .b s)
def execSwapC (s : State) : Result := .next (shiftReg .swap .c s)
def execSwapD (s : State) : Result := .next (shiftReg .swap .d s)
def execSwapE (s : State) : Result := .next (shiftReg .swap .e s)
def execSwapH (s : State) : Result := .next (shiftReg .swap .h s)
def execSwapL (s : State) : Result := .next (shiftReg .swap .l s)
def execSwapA (s : State) : Result := .next (shiftReg .swap .a s)

/-! `SWAP (HL)` (R227). -/

def execSwapMemHl (s : State) : Result := .next (shiftMemHl .swap s)

/-! `SRL r` (R228). -/

def execSrlB (s : State) : Result := .next (shiftReg .srl .b s)
def execSrlC (s : State) : Result := .next (shiftReg .srl .c s)
def execSrlD (s : State) : Result := .next (shiftReg .srl .d s)
def execSrlE (s : State) : Result := .next (shiftReg .srl .e s)
def execSrlH (s : State) : Result := .next (shiftReg .srl .h s)
def execSrlL (s : State) : Result := .next (shiftReg .srl .l s)
def execSrlA (s : State) : Result := .next (shiftReg .srl .a s)

/-! `SRL (HL)` (R229). -/

def execSrlMemHl (s : State) : Result := .next (shiftMemHl .srl s)

end Sys2Proof.Machine
end

