-- ==== Sys2Proof/Machine/Misc.lean ====
section
/-! DEFINITION. NOP, HALT, STOP, DI, EI, the CB prefix and the undefined opcodes (R260 to R266). -/

namespace Sys2Proof.Machine

/-! ## Shared operations -/

/-- Nothing (R260). -/
def nop (s : State) : State := s

/-- `HALT` (R261): the halt bug if an interrupt is pending and IME is 0, else the halted state. -/
def halt (s : State) : State :=
  if !s.latch.ime && decide (pending s ≠ 0) then s.setLatch { s.latch with haltBug := true }
  else s.setLatch { s.latch with halted := true }

/-- `STOP` (R262): the second byte is skipped, the system counter is reset as by a DIV write (R322), `stopped` is set. -/
def stop (s : State) : State :=
  let s' := s.advancePc.setTimer s.timer.resetCounter
  s'.setLatch { s'.latch with stopped := true }

/-- `DI` (R263): `IME <- 0; ime_pending <- 0`. -/
def di (s : State) : State := s.setLatch { s.latch with ime := false, imePending := false }

/-- `EI` (R264): `ime_pending <- 1`; the scheduler sets IME (R294). -/
def ei (s : State) : State := s.setLatch { s.latch with imePending := true }

/-- An undefined opcode (R266). -/
def lockUp (s : State) : State := lock s

/-- "execute the rule of CB row c" (R265), by the fields of c (R119). -/
def cbMeaning (c : Byte) (s : State) : State :=
  let x := c.extractLsb' 6 2
  match reg8Of (fieldZ c) with
  | some r =>
    if x = 0 then shiftReg (shiftOpOf (fieldY c)) r s
    else if x = 1 then bitReg (fieldY c) r s
    else if x = 2 then resReg (fieldY c) r s
    else setReg (fieldY c) r s
  | none =>
    if x = 0 then shiftMemHl (shiftOpOf (fieldY c)) s
    else if x = 1 then bitMemHl (fieldY c) s
    else if x = 2 then resMemHl (fieldY c) s
    else setMemHl (fieldY c) s

/-! ## The rows -/

/-! `NOP` (R260). -/

def execNop (s : State) : Result := .next (nop s)

/-! `HALT` (R261). -/

def execHalt (s : State) : Result := .next (halt s)

/-! `STOP` (R262). -/

def execStop (s : State) : Result := .next (stop s)

/-! `DI` (R263). -/

def execDi (s : State) : Result := .next (di s)

/-! `EI` (R264). -/

def execEi (s : State) : Result := .next (ei s)

/-! `PREFIX CB` (R265). -/

def execPrefixCb (c : Byte) (s : State) : Result := .next (cbMeaning c s)

/-! `undefined` (R266). -/

def execUndefinedD3 (s : State) : Result := .next (lockUp s)
def execUndefinedDB (s : State) : Result := .next (lockUp s)
def execUndefinedDD (s : State) : Result := .next (lockUp s)
def execUndefinedE3 (s : State) : Result := .next (lockUp s)
def execUndefinedE4 (s : State) : Result := .next (lockUp s)
def execUndefinedEB (s : State) : Result := .next (lockUp s)
def execUndefinedEC (s : State) : Result := .next (lockUp s)
def execUndefinedED (s : State) : Result := .next (lockUp s)
def execUndefinedF4 (s : State) : Result := .next (lockUp s)
def execUndefinedFC (s : State) : Result := .next (lockUp s)
def execUndefinedFD (s : State) : Result := .next (lockUp s)

end Sys2Proof.Machine
end

