-- ==== Sys2Proof/Machine/Scheduler.lean ====
section
/-! DEFINITION. One scheduler iteration (R292 to R297), and the placing of a word where the next fetch reads it. -/

namespace Sys2Proof.Machine

/-! ## The iteration -/

/-- The end of an executed instruction (R294): `was` is `ime_pending` before it began. -/
def afterInstruction (was : Bool) (s : State) : State :=
  if was && s.latch.imePending then s.setLatch { s.latch with ime := true, imePending := false } else s

/-- Step 5 of R292: fetch an instruction's bytes and run it. -/
def executeInstruction (s : State) : Result :=
  match exec (fetchedInstr s) (afterFetch s) with
  | .next s' => .next (afterInstruction s.latch.imePending s')
  | .fault r => .fault r
  | .refused r => .refused r

/-- The interrupt line that is serviced at this boundary, if there is one (R287). -/
def serviceLine (s : State) : Option IntLine := if s.latch.ime then lowestLine (pending s) else none

/-- `halted <- 0` (R295): "wake; no extra M-cycle". -/
def wake (s : State) : State := s.setLatch { s.latch with halted := false }

/-- Steps 3 to 5 of R292: the stopped step, service, or an instruction. -/
def runBoundary (s : State) : Result :=
  if s.latch.stopped then .next (internal s)
  else
    match serviceLine s with
    | some n => .next (takeInterrupt n s)
    | none => executeInstruction s

/-- `SchedulerStep()` (R292). -/
def schedulerStep (s : State) : Result :=
  if s.latch.locked then .next (internal s)
  else if s.latch.halted then
    if pending s = 0 then .next (internal s) else runBoundary (wake s)
  else runBoundary s

/-! ## Placing a word at the next fetch (log entry 16) -/

/-- Whether a byte can be placed at an address so that a fetch reads it back at any dot: cartridge, boot image, WRAM, the
echo or HRAM. -/
def placeable (a : Word) : Bool :=
  match regionOf a with
  | .rom | .extRam | .wram | .echo | .hram => true
  | .vram | .oam | .prohibited | .io | .ie => false

/-- Make the fetch of an address read a byte: what is known of the boot image or the cartridge, or RAM. -/
def placeByte (a : Word) (v : Byte) (s : State) : State :=
  match regionOf a with
  | .rom =>
    if inBootOverlay s a then s.setEnv { s.env with bootRom := Memory.write s.env.bootRom a.toNat v }
    else s.setEnv { s.env with cart := Memory.write s.env.cart a.toNat v }
  | .extRam => s.setEnv { s.env with cart := Memory.write s.env.cart a.toNat v }
  | .wram | .hram => ramWrite a.toNat v s
  | .echo => ramWrite (a.toNat - 0x2000) v s
  | .vram | .oam | .prohibited | .io | .ie => s

/-- Make byte after byte readable from an address on. -/
def placeBytes : Word → List Byte → State → State
  | _, [], s => s
  | a, v :: rest, s => placeBytes (a + 1) rest (placeByte a v s)

/-- The state in which the next step fetches: not locked, halted or stopped, no halt bug, no interrupt to service, no
DMA that blocks the fetch, and PC where bytes can be placed. What already is so is left alone. -/
def readyToFetch (s : State) : State :=
  let pc := s.regs.pc
  let pc' : Word := if placeable pc && placeable (pc + 1) && placeable (pc + 2) then pc else 0xC000
  let hram := decide (regionOf pc' = .hram) && decide (regionOf (pc' + 2) = .hram)
  ((s.setLatch { s.latch with
      ime := s.latch.ime && decide (pending s = 0)
      halted := false, haltBug := false, stopped := false, locked := false }).setPc pc').setDma
    { s.dma with active := s.dma.active && hram }

/-- The instruction whose `nbits` bits are `w`, stored where the next step fetches it. -/
def placeWord (nbits w : Nat) (s : State) : State :=
  let s' := readyToFetch s
  placeBytes s'.regs.pc (tableBytes nbits w) s'

end Sys2Proof.Machine
end

