-- ==== Sys2Proof/Machine/Step.lean ====
section
/-! DEFINITION. One step of the machine: one scheduler iteration (R292). -/

namespace Sys2Proof.Machine

/-- One scheduler iteration: an instruction, an interrupt service, or an idle M-cycle (R292). -/
def step (s : State) : Host.Outcome State Fault Refusal := schedulerStep s

/-- The state with an instruction of the opcode table stored where `step` fetches its next instruction (log entry 16). -/
def State.withFetchWord (s : State) (nbits w : Nat) : State := placeWord nbits w s

end Sys2Proof.Machine
end

