-- ==== Sys2Proof/Safety.lean ====
section
/-! DEFINITION. The terms claims use: what it means to run on, where a store lands, what an instruction may leave changed,
and the invariant of the machine's states. -/

namespace Sys2Proof.Machine

/-! ## Running on (R280) -/

/-- The outcome is a next state. -/
def Continues (r : Result) : Prop := ∃ t, r = .next t

/-- The state is safe: its next step answers a next state. -/
def State.Safe (s : State) : Prop := Continues (step s)

/-! ## Decimal -/

/-- The byte that holds a number below 100 in two decimal digits. -/
def bcd (x : Nat) : Byte := BitVec.ofNat 8 (16 * (x / 10) + x % 10)

/-! ## Where a store lands -/

/-- The byte of the block's storage that a bus address reaches, under its own bus address (R71, R72). -/
def storageOf (a : Word) : Option Nat :=
  match regionOf a with
  | .vram | .wram | .oam | .hram => some a.toNat
  | .echo => some (a.toNat - 0x2000)
  | .rom | .extRam | .prohibited | .io | .ie => none

/-- Whether a bus address belongs to the cartridge (R79). -/
def isCartridge (a : Word) : Bool :=
  match regionOf a with
  | .rom | .extRam => true
  | .vram | .wram | .oam | .hram | .echo | .prohibited | .io | .ie => false

/-! ## The invariant -/

/-- The form of the lists: canonical memories that list only the block's storage, canonical framebuffers of 160 × 144
pixels (R55, R57). -/
structure State.ListsWf (s : State) : Prop where
  mem : Memory.wf s.mem
  memRam : ∀ c ∈ s.mem, isRam c.1
  memZero : s.env.launch = .bootRom → ∀ c ∈ s.mem, c.2 ≠ 0
  cart : Memory.wf s.env.cart
  bootRom : Memory.wf s.env.bootRom
  drawFb : FrameBuffer.wf s.ppu.drawFb ∧ ∀ p ∈ s.ppu.drawFb, p.1 < 23040
  visibleFb : FrameBuffer.wf s.ppu.visibleFb ∧ ∀ p ∈ s.ppu.visibleFb, p.1 < 23040

/-- The timer: the edge detector is in step with its input, and the window's count is within its range (R52, R324). -/
structure Timer.Inv (t : Timer) : Prop where
  signal : t.signalPrev = t.signal
  countdown : t.reloadCountdown ≤ 4

/-- The DMA engine: the counts within their ranges, the source a page's base, and a running copy not at its end (R53). -/
structure Dma.Inv (d : Dma) : Prop where
  src : loByte d.src = 0
  index : d.index ≤ 160
  running : d.active = true → d.index < 160
  sub : d.sub < 4

/-- The PPU (R54, R360, R362, R390): the counters within their ranges, the mode in step with the LCD switch, `ly` and
`dot`, the selection a rising list of at most 10 OAM indices, the FIFOs at most 8 pixels. -/
structure Ppu.Inv (p : Ppu) : Prop where
  ly : p.ly ≤ 153
  dot : p.dot ≤ 455
  off : p.lcdOn = false → p.ly = 0 ∧ p.dot = 0 ∧ p.mode = .hblank ∧ p.sprites = []
  vblank : p.lcdOn = true → (p.mode = .vblank ↔ 144 ≤ p.ly)
  scan : p.mode = .oamScan → p.dot < 80 ∧ ∀ sp ∈ p.sprites, 2 * sp.index < p.dot
  transfer : p.mode = .pixelXfer → 80 ≤ p.dot ∧ p.lx < 160
  blank : p.lcdOn = true → p.mode = .hblank → 80 ≤ p.dot
  spriteCount : p.sprites.length ≤ 10
  spriteOrder : p.sprites.Pairwise (fun a b => a.index < b.index)
  spriteRange : ∀ sp ∈ p.sprites, sp.index < 40
  fetchLeft : p.spriteFetchLeft ≤ 5
  fetching : p.mode = .pixelXfer → 0 < p.spriteFetchLeft → ∃ sp ∈ p.sprites, sp.index = p.fetching
  discard : p.discard ≤ 7
  bgFifo : p.bgFifo.length ≤ 8
  objFifo : p.objFifo.length ≤ 8

/-- The CPU is in at most one of the three idle states, and in none while the halt bug is pending (R300, R261). -/
structure Latches.Inv (l : Latches) : Prop where
  haltedStopped : l.halted = true → l.stopped = false
  haltedLocked : l.halted = true → l.locked = false
  stoppedLocked : l.stopped = true → l.locked = false
  haltBug : l.haltBug = true → l.halted = false ∧ l.stopped = false ∧ l.locked = false

/-- The invariant of the machine's states. -/
structure State.Inv (s : State) : Prop where
  lists : s.ListsWf
  timer : s.timer.Inv
  dma : s.dma.Inv
  ppu : s.ppu.Inv
  latch : s.latch.Inv

/-! ## Frames -/

/-- Between `s` and `t` the CPU stored at most to the addresses `stored`. Every other byte of the block's storage reads
as before, but for OAM bytes while a DMA copy runs or is started (FF46); so do IE, the overlay, what is known of the
cartridge, and every register only a CPU write changes. `IF` keeps the bits it has unless FF0F was written; requests may
add to it. -/
structure MemoryFrame (stored : List Word) (s t : State) : Prop where
  /-- Storage outside OAM changes only where a store lands. -/
  storage : ∀ x, ¬ (0xFE00 ≤ x ∧ x ≤ 0xFE9F) → (∀ a ∈ stored, storageOf a ≠ some x) → ramRead t x = ramRead s x
  /-- With no copy running or started, all storage, OAM too, changes only where a store lands. -/
  quiet : s.dma.active = false → 0xFF46 ∉ stored →
    ∀ x, (∀ a ∈ stored, storageOf a ≠ some x) → ramRead t x = ramRead s x
  /-- A store starts no copy unless it is to FF46. -/
  idle : s.dma.active = false → 0xFF46 ∉ stored → t.dma.active = false
  /-- IE. -/
  ie : 0xFFFF ∉ stored → t.ieReg = s.ieReg
  /-- The boot overlay. -/
  overlay : 0xFF50 ∉ stored → t.bootMapped = s.bootMapped
  /-- The bytes that are known of the cartridge. -/
  cart : (∀ a ∈ stored, isCartridge a = false) → t.env.cart = s.env.cart
  /-- The boot image and the launch mode. -/
  image : t.env.bootRom = s.env.bootRom ∧ t.env.launch = s.env.launch
  /-- No interrupt request is lost. -/
  requests : 0xFF0F ∉ stored → s.ifReg &&& t.ifReg = s.ifReg
  /-- The timer's control registers. -/
  tma : 0xFF06 ∉ stored → t.timer.tma = s.timer.tma
  tac : 0xFF07 ∉ stored → t.timer.tac = s.timer.tac
  /-- The DMA register. -/
  dma : 0xFF46 ∉ stored → t.dma.reg = s.dma.reg
  /-- The PPU's registers. -/
  lcdc : 0xFF40 ∉ stored → t.ppu.lcdc = s.ppu.lcdc
  stat : 0xFF41 ∉ stored → t.ppu.statSel = s.ppu.statSel
  scy : 0xFF42 ∉ stored → t.ppu.scy = s.ppu.scy
  scx : 0xFF43 ∉ stored → t.ppu.scx = s.ppu.scx
  lyc : 0xFF45 ∉ stored → t.ppu.lyc = s.ppu.lyc
  bgp : 0xFF47 ∉ stored → t.ppu.bgp = s.ppu.bgp
  obp0 : 0xFF48 ∉ stored → t.ppu.obp0 = s.ppu.obp0
  obp1 : 0xFF49 ∉ stored → t.ppu.obp1 = s.ppu.obp1
  wy : 0xFF4A ∉ stored → t.ppu.wy = s.ppu.wy
  wx : 0xFF4B ∉ stored → t.ppu.wx = s.ppu.wx

/-- The control latches are as before, but that a joypad edge may have ended STOP (R296). -/
def LatchFrame (s t : State) : Prop :=
  t.latch = { s.latch with stopped := t.latch.stopped } ∧ (t.latch.stopped = true → s.latch.stopped = true)

/-- The outcome is a next state: the registers are `regs`, `n` M-cycles have passed, the latches are within their frame,
and storage and special registers have changed only where the stores to `stored` land. -/
def Completes (stored : List Word) (n : Nat) (regs : Regs) (s : State) (r : Result) : Prop :=
  ∃ t, r = .next t ∧ t.regs = regs ∧ t.cycles = s.cycles + BitVec.ofNat 64 (4 * n) ∧ LatchFrame s t ∧
    (s.dma.Inv → MemoryFrame stored s t)

end Sys2Proof.Machine
end

