-- ==== Sys2Proof/WellFormed.lean ====
section
/-! DEFINITION. Which terms of `Instr` stand for the words of a program. -/

namespace Sys2Proof

/-- An instruction is well formed unless it is the table's PREFIX CB row, which "is the decode row of the CB format, not
an instruction of its own" (R110): the words of `prefixCb c` are those of the CB row of `c`, which is what they decode
to. Every other constructor's operands are exact by their types, so there is nothing else to check. -/
def Instr.wellFormed : Instr → Bool
  | .prefixCb _ => false
  | _ => true

end Sys2Proof
end

