-- ==== Sys2Proof/Certificates/Slice0/Obligations.lean ====
section
/-! DEFINITION. The statements for the provers, by subject. A "byte of storage" is `ramRead`; a bus access by the CPU is
`cpuRead`, `cpuWrite`; an M-cycle with its access is `memRead a`, `memWrite a v` or `internal` (R10, R84). "Spec
decisions" are those the spec marks as its own in the rules named (92_eei_decisions.md; log entry 17). -/

section
open Sys2Proof Sys2Proof.Machine

/-! ## Encoding -/

/-- Decoding the bytes of a well-formed instruction gives it back, with every operand at every value, whatever bytes
follow (R110 to R122). Spec decisions: D13. -/
def Obligations.DecodeOfEncode : Prop :=
  ∀ (i : Instr) (rest : List Byte), i.wellFormed = true → decode (encode i ++ rest) = .ok (i, rest)

/-- Whatever decodes is well formed and is the encoding of what it decodes to, but for STOP's second byte, which is
ignored (R110, R122). Spec decisions: D13, D49. -/
def Obligations.EncodeOfDecode : Prop :=
  ∀ (bs : List Byte) (i : Instr) (rest : List Byte), decode bs = .ok (i, rest) →
    i.wellFormed = true ∧ (bs = encode i ++ rest ∨ (i = .stop ∧ ∃ b, bs = 0x10 :: b :: rest))

/-- Decoding fails only where bytes are missing: every opcode starts an instruction (R120 to R122). Spec decisions:
D13. -/
def Obligations.DecodeTotal : Prop :=
  ∀ bs : List Byte, (∃ e, decode bs = .error e) ↔ bs.length < lengthOf (bs.headD 0)

/-- A few words written out from the spec: LD B,C; LD A,0x3C; LD (0xC100),SP; CP (HL); JR NZ,-3; CALL 0xD000; STOP;
SWAP A; BIT 7,H; an undefined opcode. Spec decisions: D13, D14, D49. -/
def Obligations.DecodedWords : Prop :=
  decode [0x41] = .ok (.ldBC, []) ∧ decode [0x3E, 0x3C] = .ok (.ldAN 0x3C, []) ∧
  decode [0x08, 0x00, 0xC1] = .ok (.ldMemNnSp 0xC100, []) ∧ decode [0xBE] = .ok (.cpMemHl, []) ∧
  decode [0x20, 0xFD] = .ok (.jrNzE8 0xFD, []) ∧ decode [0xCD, 0x00, 0xD0] = .ok (.callNn 0xD000, []) ∧
  decode [0x10, 0x00] = .ok (.stop, []) ∧ decode [0xCB, 0x37] = .ok (.swapA, []) ∧
  decode [0xCB, 0x7C] = .ok (.bit7H, []) ∧ decode [0xD3] = .ok (.undefinedD3, [])

/-- The CB prefix (R119, R265): 0xCB and a byte decode to the CB row of the byte, and the prefix row of the table
means that row: it completes with the same next state. Spec decisions: D48. -/
def Obligations.PrefixIsCbRow : Prop :=
  ∀ (c : Byte) (rest : List Byte) (s : State),
    decode (0xCB :: c :: rest) = .ok (decodeCb c, rest) ∧
    ∃ t, exec (.prefixCb c) s = .next t ∧ exec (decodeCb c) s = .next t

/-! ## The scheduler iteration -/

/-- A step runs the decoded instruction (R292 step 5, R293, R294): at a boundary with no service, where the bytes at
PC, each read in its own M-cycle, decode to `i`, the step is `i` run after its fetch, and then the EI delay's end.
Spec decisions: D10, D11, D13, D14, D48. -/
def Obligations.StepRunsDecoded : Prop :=
  ∀ (s : State) (i : Instr) (rest : List Byte),
    s.latch.locked = false → s.latch.stopped = false → (s.latch.halted = true → pending s ≠ 0) →
    serviceLine s = none →
    decode [pcByte (wake s), pcByte (fetch (wake s)), pcByte (imm8 (fetch (wake s)))] = .ok (i, rest) →
    step s =
      match exec i (afterFetch (wake s)) with
      | .next t =>
        .next (if s.latch.imePending && t.latch.imePending then
          t.setLatch { t.latch with ime := true, imePending := false } else t)
      | .fault r => .fault r
      | .refused r => .refused r

/-- The fetch (R11, R25, R293, R262): the opcode's M-cycle and one for each operand byte. PC moves past every byte
read, but the opcode byte while the halt bug is pending, which the fetch ends; no other register changes, and nothing
is stored. Spec decisions: D1, D6, D48. -/
def Obligations.FetchOfInstruction : Prop :=
  ∀ s : State,
    (afterFetch s).regs = { s.regs with
      pc := s.regs.pc + (if s.latch.haltBug then 0 else 1) + BitVec.ofNat 16 (operandReads (pcByte s)) } ∧
    (afterFetch s).latch.haltBug = false ∧
    (afterFetch s).cycles = s.cycles + BitVec.ofNat 64 (4 * (1 + operandReads (pcByte s))) ∧
    LatchFrame { s with latch := { s.latch with haltBug := false } } (afterFetch s) ∧
    (s.dma.Inv → MemoryFrame [] s (afterFetch s))

/-- "No SM83 instruction traps" (R280): every instruction, and every step, answers a next state. -/
def Obligations.NothingStops : Prop :=
  (∀ (i : Instr) (s : State), Continues (exec i s)) ∧ ∀ s : State, s.Safe

/-- The idle iterations (R281, R295, R296): one internal M-cycle while locked, while halted with nothing pending, and
while stopped; a halted CPU with an interrupt pending goes on as one that is not halted. Spec decisions: D11, D13,
D14, D49, D53. -/
def Obligations.IdleSteps : Prop :=
  ∀ s : State,
    (s.latch.locked = true → step s = .next (internal s)) ∧
    (s.latch.locked = false → s.latch.halted = true → pending s = 0 → step s = .next (internal s)) ∧
    (s.latch.locked = false → s.latch.halted = true → pending s ≠ 0 → step s = step (wake s)) ∧
    (s.latch.locked = false → s.latch.halted = false → s.latch.stopped = true → step s = .next (internal s))

/-- The locked state is permanent (R281, R31): after any number of steps the CPU is locked, no register has changed,
and every step took 4 T-cycles. Spec decisions: D14. -/
def Obligations.LockedForever : Prop :=
  ∀ (n : Nat) (s : State), s.latch.locked = true →
    ∃ t, Sys2Proof.core.run n s = .next t ∧ t.latch.locked = true ∧ t.regs = s.regs ∧
      t.cycles = s.cycles + BitVec.ofNat 64 (4 * n)

/-- A joypad edge that is due (R296, R302): its T-cycle requests line 4 and ends STOP. Spec decisions: D13, D34, D49,
D53. -/
def Obligations.JoypadEdge : Prop :=
  ∀ (s : State) (rest : List (Nat × ExtEvent)), s.env.inputs = (0, .joypadEdge) :: rest →
    (tickT s).latch.stopped = false ∧ (tickT s).ifReg.getLsbD 4 = true

/-- The lowest-numbered pending line is selected, and one is selected exactly when one is pending (R285). -/
def Obligations.LowestLineSelected : Prop :=
  ∀ p : BitVec 5,
    (lowestLine p = none ↔ p = 0) ∧
    ∀ n : IntLine, lowestLine p = some n ↔ (p.getLsbD n.bit = true ∧ ∀ k, k < n.bit → p.getLsbD k = false)

/-- Interrupt service (R287 to R290, R303): with IME set and line `n` selected, the step clears IF[n], IME,
`ime_pending` and `halt_bug`, runs `I, I, W(SP-1), W(SP-2), I`, pushing PC, or PC − 1 where it consumes the halt bug,
and goes on at `0x40 + 8·n`. Only SP and PC change among the registers. Spec decisions: D9, D12. -/
def Obligations.InterruptService : Prop :=
  ∀ (s : State) (n : IntLine),
    s.latch.locked = false → s.latch.stopped = false → s.latch.ime = true → lowestLine (pending s) = some n →
    ∃ s₁ t : State,
      s₁ = { s with
        ifReg := s.ifReg &&& ~~~(1#5 <<< n.bit)
        latch := { s.latch with ime := false, imePending := false, haltBug := false, halted := false } } ∧
      t = (internal (push16 (if s.latch.haltBug then s.regs.pc - 1 else s.regs.pc) (internal (internal s₁)))).setPc
        (0x0040 + BitVec.ofNat 16 (8 * n.bit)) ∧
      step s = .next t ∧
      t.regs = { s.regs with sp := s.regs.sp - 2, pc := 0x0040 + BitVec.ofNat 16 (8 * n.bit) } ∧
      t.cycles = s.cycles + 20 ∧ LatchFrame s₁ t ∧
      (s.dma.Inv → MemoryFrame [s.regs.sp - 1, s.regs.sp - 2] s₁ t)

/-- The EI delay (R294, R263, R264): an instruction that begins with `ime_pending` set ends with IME set, DI with IME
clear; EI leaves IME as it is and sets `ime_pending`. Spec decisions: D9, D10. -/
def Obligations.EiDelay : Prop :=
  ∀ s t : State,
    s.latch.locked = false → s.latch.stopped = false → (s.latch.halted = true → pending s ≠ 0) →
    serviceLine s = none → step s = .next t →
    (s.latch.imePending = true → fetchedInstr (wake s) ≠ .di → t.latch.ime = true ∧ t.latch.imePending = false) ∧
    (fetchedInstr (wake s) = .di → t.latch.ime = false ∧ t.latch.imePending = false) ∧
    (s.latch.imePending = false → fetchedInstr (wake s) = .ei → t.latch.ime = s.latch.ime ∧ t.latch.imePending = true)

/-- Instruction timing (R441, R298, R265): a step that executes an instruction advances `cycles` by what the opcode
table gives its opcode, or its CB opcode, with the not-taken figure where its condition fails. Spec decisions: D48. -/
def Obligations.InstructionCycles : Prop :=
  ∀ s t : State,
    s.latch.locked = false → s.latch.stopped = false → (s.latch.halted = true → pending s ≠ 0) →
    serviceLine s = none → step s = .next t →
    t.cycles = s.cycles +
      BitVec.ofNat 64 (tableCycles (pcByte (wake s)) (pcByte (fetch (wake s))) s.regs.f)

/-! ## What the instructions do: the next state -/

/-- The 85 byte loads (R130 to R148): a load writes its register, a store writes memory at its address, and HL moves
in the HL+ and HL− forms. -/
def Obligations.ByteLoadResults : Prop :=
  ∀ s : State,
    (∀ dst src, exec (Instr.ldRegReg dst src) s = .next { s with regs := s.regs.set8 dst (s.regs.get8 src) }) ∧
    (∀ r n, exec (Instr.ldRegImm r n) s = .next { s with regs := s.regs.set8 r n }) ∧
    (∀ r, exec (Instr.ldRegMemHl r) s =
      .next ((memRead s.regs.hl s).setReg8 r (cpuRead s s.regs.hl))) ∧
    (∀ r, exec (Instr.ldMemHlReg r) s = .next (memWrite s.regs.hl (s.regs.get8 r) s)) ∧
    (∀ n, exec (.ldMemHlN n) s = .next (memWrite s.regs.hl n s)) ∧
    exec .ldAMemBc s = .next ((memRead (wordOf s.regs.b s.regs.c) s).setReg8 .a
      (cpuRead s (wordOf s.regs.b s.regs.c))) ∧
    exec .ldAMemDe s = .next ((memRead (wordOf s.regs.d s.regs.e) s).setReg8 .a
      (cpuRead s (wordOf s.regs.d s.regs.e))) ∧
    exec .ldMemBcA s = .next (memWrite (wordOf s.regs.b s.regs.c) s.regs.a s) ∧
    exec .ldMemDeA s = .next (memWrite (wordOf s.regs.d s.regs.e) s.regs.a s) ∧
    (∀ nn, exec (.ldAMemNn nn) s = .next ((memRead nn s).setReg8 .a (cpuRead s nn))) ∧
    (∀ nn, exec (.ldMemNnA nn) s = .next (memWrite nn s.regs.a s)) ∧
    exec .ldhAMemC s = .next ((memRead (0xFF00 + s.regs.c.setWidth 16) s).setReg8 .a
      (cpuRead s (0xFF00 + s.regs.c.setWidth 16))) ∧
    exec .ldhMemCA s = .next (memWrite (0xFF00 + s.regs.c.setWidth 16) s.regs.a s) ∧
    (∀ n, exec (.ldhAMemN n) s = .next ((memRead (0xFF00 + n.setWidth 16) s).setReg8 .a
      (cpuRead s (0xFF00 + n.setWidth 16)))) ∧
    (∀ n, exec (.ldhMemNA n) s = .next (memWrite (0xFF00 + n.setWidth 16) s.regs.a s)) ∧
    exec .ldAMemHlDec s = .next (((memRead s.regs.hl s).setReg8 .a (cpuRead s s.regs.hl)).setReg16 .hl
      (s.regs.hl - 1)) ∧
    exec .ldMemHlDecA s = .next ((memWrite s.regs.hl s.regs.a s).setReg16 .hl (s.regs.hl - 1)) ∧
    exec .ldAMemHlInc s = .next (((memRead s.regs.hl s).setReg8 .a (cpuRead s s.regs.hl)).setReg16 .hl
      (s.regs.hl + 1)) ∧
    exec .ldMemHlIncA s = .next ((memWrite s.regs.hl s.regs.a s).setReg16 .hl (s.regs.hl + 1))

/-- The 15 word loads (R150 to R155): the immediate loads, LD (nn),SP low byte first, LD SP,HL, LD HL,SP+e8, and PUSH
and POP, high byte pushed first and low byte popped first. -/
def Obligations.WordLoadResults : Prop :=
  ∀ s : State,
    (∀ rr nn, exec (Instr.ldReg16Imm rr nn) s = .next { s with regs := s.regs.set16 rr nn }) ∧
    (∀ nn, exec (.ldMemNnSp nn) s =
      .next (memWrite (nn + 1) (hiByte s.regs.sp) (memWrite nn (loByte s.regs.sp) s))) ∧
    exec .ldSpHl s = .next ((internal s).setSp s.regs.hl) ∧
    (∀ e, exec (.ldHlSpE8 e) s =
      .next (((internal s).setReg16 .hl (addSpE s.regs.sp e)).setFlags (addSpEFlags s.regs.sp e))) ∧
    (∀ qq, ∃ s₁ s₂, s₁ = memWrite (s.regs.sp - 1) (hiByte (s.regs.getStack qq))
        ((internal s).setSp (s.regs.sp - 1)) ∧
      s₂ = memWrite (s.regs.sp - 2) (loByte (s.regs.getStack qq)) (s₁.setSp (s.regs.sp - 2)) ∧
      exec (Instr.pushReg qq) s = .next s₂) ∧
    (∀ qq, ∃ s₁ s₂, s₁ = (memRead s.regs.sp s).setSp (s.regs.sp + 1) ∧
      s₂ = (memRead (s.regs.sp + 1) s₁).setSp (s.regs.sp + 2) ∧
      exec (Instr.popReg qq) s =
        .next (s₂.setStack qq (wordOf (cpuRead s₁ (s.regs.sp + 1)) (cpuRead s s.regs.sp))))

/-- The 92 byte arithmetic and logic rows (R160 to R192): the ALU operations in their three forms, where CP writes
the flags only; INC and DEC, which keep Cy, with a read and a write M-cycle for (HL); DAA, CPL, SCF and CCF. -/
def Obligations.ByteAluResults : Prop :=
  ∀ s : State,
    (∀ op r, exec (Instr.aluReg op r) s = .next { s with regs := { s.regs with
      a := if op = .cp then s.regs.a else (alu op s.regs.a (s.regs.get8 r) s.regs.f.c).res
      f := (alu op s.regs.a (s.regs.get8 r) s.regs.f.c).flags } }) ∧
    (∀ op, exec (Instr.aluMemHl op) s = .next { memRead s.regs.hl s with regs := { s.regs with
      a := if op = .cp then s.regs.a else (alu op s.regs.a (cpuRead s s.regs.hl) s.regs.f.c).res
      f := (alu op s.regs.a (cpuRead s s.regs.hl) s.regs.f.c).flags } }) ∧
    (∀ op n, exec (Instr.aluImm op n) s = .next { s with regs := { s.regs with
      a := if op = .cp then s.regs.a else (alu op s.regs.a n s.regs.f.c).res
      f := (alu op s.regs.a n s.regs.f.c).flags } }) ∧
    (∀ r, exec (Instr.incReg r) s = .next { s with regs := { s.regs.set8 r (s.regs.get8 r + 1) with
      f := { z := decide (s.regs.get8 r + 1 = 0), n := false
             h := decide ((s.regs.get8 r).toNat % 16 = 15), c := s.regs.f.c } } }) ∧
    (∀ r, exec (Instr.decReg r) s = .next { s with regs := { s.regs.set8 r (s.regs.get8 r - 1) with
      f := { z := decide (s.regs.get8 r - 1 = 0), n := true
             h := decide ((s.regs.get8 r).toNat % 16 = 0), c := s.regs.f.c } } }) ∧
    (∀ v, v = cpuRead s s.regs.hl → exec .incMemHl s =
      .next ((memWrite s.regs.hl (v + 1) (memRead s.regs.hl s)).setFlags
        { z := decide (v + 1 = 0), n := false, h := decide (v.toNat % 16 = 15), c := s.regs.f.c })) ∧
    (∀ v, v = cpuRead s s.regs.hl → exec .decMemHl s =
      .next ((memWrite s.regs.hl (v - 1) (memRead s.regs.hl s)).setFlags
        { z := decide (v - 1 = 0), n := true, h := decide (v.toNat % 16 = 0), c := s.regs.f.c })) ∧
    exec .daa s = .next { s with regs := { s.regs with
      a := (daaByte s.regs.a s.regs.f).res, f := (daaByte s.regs.a s.regs.f).flags } } ∧
    exec .cpl s = .next { s with regs := { s.regs with
      a := ~~~s.regs.a, f := { s.regs.f with n := true, h := true } } } ∧
    exec .scf s = .next { s with regs := { s.regs with f := { s.regs.f with n := false, h := false, c := true } } } ∧
    exec .ccf s = .next { s with regs := { s.regs with
      f := { s.regs.f with n := false, h := false, c := !s.regs.f.c } } }

/-- The 13 word arithmetic rows (R200 to R204): ADD HL,rr keeps Z and takes Hf from bit 11 and Cy from bit 15; INC rr
and DEC rr write no flag; ADD SP,e8 takes two internal M-cycles. -/
def Obligations.WordAluResults : Prop :=
  ∀ s : State,
    (∀ rr, exec (Instr.addHlReg16 rr) s =
      .next (((internal s).setReg16 .hl (s.regs.hl + s.regs.get16 rr)).setFlags
        { z := s.regs.f.z, n := false
          h := decide (s.regs.hl.toNat % 4096 + (s.regs.get16 rr).toNat % 4096 > 0xFFF)
          c := decide (s.regs.hl.toNat + (s.regs.get16 rr).toNat > 0xFFFF) })) ∧
    (∀ rr, exec (Instr.incReg16 rr) s = .next ((internal s).setReg16 rr (s.regs.get16 rr + 1))) ∧
    (∀ rr, exec (Instr.decReg16 rr) s = .next ((internal s).setReg16 rr (s.regs.get16 rr - 1))) ∧
    (∀ e, exec (.addSpE8 e) s =
      .next (((internal (internal s)).setSp (addSpE s.regs.sp e)).setFlags (addSpEFlags s.regs.sp e)))

/-- The 68 rotates and shifts (R210 to R229): the four on A clear Z, the CB forms set Z from the result; the (HL)
forms read in one M-cycle and write in the next. -/
def Obligations.RotateShiftResults : Prop :=
  ∀ s : State,
    exec .rlca s = .next { s with regs := { s.regs with
      a := shiftResult .rlc s.regs.a s.regs.f.c
      f := { z := false, n := false, h := false, c := s.regs.a.getLsbD 7 } } } ∧
    exec .rrca s = .next { s with regs := { s.regs with
      a := shiftResult .rrc s.regs.a s.regs.f.c
      f := { z := false, n := false, h := false, c := s.regs.a.getLsbD 0 } } } ∧
    exec .rla s = .next { s with regs := { s.regs with
      a := shiftResult .rl s.regs.a s.regs.f.c
      f := { z := false, n := false, h := false, c := s.regs.a.getLsbD 7 } } } ∧
    exec .rra s = .next { s with regs := { s.regs with
      a := shiftResult .rr s.regs.a s.regs.f.c
      f := { z := false, n := false, h := false, c := s.regs.a.getLsbD 0 } } } ∧
    (∀ op r res, res = shiftResult op (s.regs.get8 r) s.regs.f.c →
      exec (Instr.shiftReg op r) s = .next { s with regs := { s.regs.set8 r res with
        f := { z := decide (res = 0), n := false, h := false, c := shiftCarry op (s.regs.get8 r) } } }) ∧
    (∀ op res, res = shiftResult op (cpuRead s s.regs.hl) s.regs.f.c →
      exec (Instr.shiftMemHl op) s = .next ((memWrite s.regs.hl res (memRead s.regs.hl s)).setFlags
        { z := decide (res = 0), n := false, h := false, c := shiftCarry op (cpuRead s s.regs.hl) }))

/-- The 192 bit rows (R230 to R235): BIT sets Z to the complement of the bit, N = 0, Hf = 1, keeps Cy and stores
nothing; RES and SET write the byte back and no flag. -/
def Obligations.BitResults : Prop :=
  ∀ s : State,
    (∀ b r, exec (Instr.bitReg b r) s = .next { s with regs := { s.regs with
      f := { z := !(s.regs.get8 r).getLsbD b.toNat, n := false, h := true, c := s.regs.f.c } } }) ∧
    (∀ b, exec (Instr.bitMemHl b) s = .next ((memRead s.regs.hl s).setFlags
      { z := !(cpuRead s s.regs.hl).getLsbD b.toNat, n := false, h := true, c := s.regs.f.c })) ∧
    (∀ b r, exec (Instr.resReg b r) s = .next { s with regs := s.regs.set8 r (resByte b (s.regs.get8 r)) }) ∧
    (∀ b r, exec (Instr.setReg b r) s = .next { s with regs := s.regs.set8 r (setByte b (s.regs.get8 r)) }) ∧
    (∀ b, exec (Instr.resMemHl b) s =
      .next (memWrite s.regs.hl (resByte b (cpuRead s s.regs.hl)) (memRead s.regs.hl s))) ∧
    (∀ b, exec (Instr.setMemHl b) s =
      .next (memWrite s.regs.hl (setByte b (cpuRead s s.regs.hl)) (memRead s.regs.hl s)))

/-- The jumps, calls, restarts and returns but RETI, 29 rows (R240 to R249, R251), taken and not taken. PC is past
the instruction's bytes when the meaning starts. -/
def Obligations.ControlResults : Prop :=
  ∀ s : State,
    (∀ nn, exec (.jpNn nn) s = .next ((internal s).setPc nn)) ∧
    (∀ cc nn, exec (Instr.jpCond cc nn) s =
      .next (if s.regs.f.holds cc then (internal s).setPc nn else s)) ∧
    exec .jpHl s = .next (s.setPc s.regs.hl) ∧
    (∀ e, exec (.jrE8 e) s = .next ((internal s).setPc (s.regs.pc + e.signExtend 16))) ∧
    (∀ cc e, exec (Instr.jrCond cc e) s =
      .next (if s.regs.f.holds cc then (internal s).setPc (s.regs.pc + e.signExtend 16) else s)) ∧
    (∀ nn, exec (.callNn nn) s = .next ((push16 s.regs.pc (internal s)).setPc nn)) ∧
    (∀ cc nn, exec (Instr.callCond cc nn) s =
      .next (if s.regs.f.holds cc then (push16 s.regs.pc (internal s)).setPc nn else s)) ∧
    (∀ t, exec (Instr.rst t) s = .next ((push16 s.regs.pc (internal s)).setPc (BitVec.ofNat 16 (8 * t.toNat)))) ∧
    exec .ret s = .next (internal ((pop16 s).setPc (popWord s))) ∧
    (∀ cc, exec (Instr.retCond cc) s =
      .next (if s.regs.f.holds cc then
        internal ((pop16 (internal s)).setPc (popWord (internal s))) else internal s))

/-- RETI (R250, R291): `PC <- Pop16(); Internal(); IME <- 1`, in three M-cycles after the fetch; IME is set at once,
`ime_pending` is not changed, and no flag is restored. Spec decisions: D44. -/
def Obligations.RetiReturns : Prop :=
  ∀ s : State, ∃ t, exec .reti s = .next t ∧
    t.regs = { s.regs with sp := s.regs.sp + 2, pc := popWord s } ∧
    t.latch.ime = true ∧ t.latch.imePending = s.latch.imePending ∧ t.latch.halted = s.latch.halted ∧
    t.latch.haltBug = s.latch.haltBug ∧ t.latch.locked = s.latch.locked ∧
    t.cycles = s.cycles + 12 ∧ (s.dma.Inv → MemoryFrame [] s t)

/-- HALT (R261, R285): with IME = 0 and an interrupt pending it sets `halt_bug` and does not halt, else it sets
`halted`; nothing else changes. Spec decisions: D12, D41, D48. -/
def Obligations.HaltResult : Prop :=
  ∀ s : State,
    ((s.latch.ime = false ∧ s.ieReg.setWidth 5 &&& s.ifReg ≠ 0) →
      exec .halt s = .next { s with latch := { s.latch with haltBug := true } }) ∧
    (¬ (s.latch.ime = false ∧ s.ieReg.setWidth 5 &&& s.ifReg ≠ 0) →
      exec .halt s = .next { s with latch := { s.latch with halted := true } })

/-- NOP, STOP, DI, EI and the 11 undefined opcodes (R260, R262 to R264, R266): the whole next state. STOP skips its
second byte, resets the system counter as a DIV write does, and sets `stopped`. Spec decisions: D9, D10, D13, D14,
D49. -/
def Obligations.SystemResults : Prop :=
  ∀ s : State,
    exec .nop s = .next s ∧
    exec .stop s = .next { s with
      regs := { s.regs with pc := s.regs.pc + 1 }
      timer := Timer.edgeCheck { s.timer with sysCounter := 0 }
      latch := { s.latch with stopped := true } } ∧
    exec .di s = .next { s with latch := { s.latch with ime := false, imePending := false } } ∧
    exec .ei s = .next { s with latch := { s.latch with imePending := true } } ∧
    ∀ i ∈ [Instr.undefinedD3, .undefinedDB, .undefinedDD, .undefinedE3, .undefinedE4, .undefinedEB, .undefinedEC,
        .undefinedED, .undefinedF4, .undefinedFC, .undefinedFD],
      exec i s = .next { s with latch := { s.latch with locked := true } }

/-! ## What the instructions leave unchanged, and how long they take -/

/-- The byte loads (R130 to R148) complete: every register but the destination, and HL in the HL+ and HL− forms,
keeps its value; a store stores to its address only, and a load to none. -/
def Obligations.ByteLoadFrames : Prop :=
  ∀ s : State,
    (∀ dst src, Completes [] 0 (s.regs.set8 dst (s.regs.get8 src)) s (exec (Instr.ldRegReg dst src) s)) ∧
    (∀ r n, Completes [] 0 (s.regs.set8 r n) s (exec (Instr.ldRegImm r n) s)) ∧
    (∀ r, Completes [] 1 (s.regs.set8 r (cpuRead s s.regs.hl)) s (exec (Instr.ldRegMemHl r) s)) ∧
    (∀ r, Completes [s.regs.hl] 1 s.regs s (exec (Instr.ldMemHlReg r) s)) ∧
    (∀ n, Completes [s.regs.hl] 1 s.regs s (exec (.ldMemHlN n) s)) ∧
    Completes [] 1 { s.regs with a := cpuRead s (s.regs.get16 .bc) } s (exec .ldAMemBc s) ∧
    Completes [] 1 { s.regs with a := cpuRead s (s.regs.get16 .de) } s (exec .ldAMemDe s) ∧
    Completes [s.regs.get16 .bc] 1 s.regs s (exec .ldMemBcA s) ∧
    Completes [s.regs.get16 .de] 1 s.regs s (exec .ldMemDeA s) ∧
    (∀ nn, Completes [] 1 { s.regs with a := cpuRead s nn } s (exec (.ldAMemNn nn) s)) ∧
    (∀ nn, Completes [nn] 1 s.regs s (exec (.ldMemNnA nn) s)) ∧
    Completes [] 1 { s.regs with a := cpuRead s (highPage s.regs.c) } s (exec .ldhAMemC s) ∧
    Completes [highPage s.regs.c] 1 s.regs s (exec .ldhMemCA s) ∧
    (∀ n, Completes [] 1 { s.regs with a := cpuRead s (highPage n) } s (exec (.ldhAMemN n) s)) ∧
    (∀ n, Completes [highPage n] 1 s.regs s (exec (.ldhMemNA n) s)) ∧
    Completes [] 1 (Regs.set16 { s.regs with a := cpuRead s s.regs.hl } .hl (s.regs.hl - 1)) s
      (exec .ldAMemHlDec s) ∧
    Completes [s.regs.hl] 1 (s.regs.set16 .hl (s.regs.hl - 1)) s (exec .ldMemHlDecA s) ∧
    Completes [] 1 (Regs.set16 { s.regs with a := cpuRead s s.regs.hl } .hl (s.regs.hl + 1)) s
      (exec .ldAMemHlInc s) ∧
    Completes [s.regs.hl] 1 (s.regs.set16 .hl (s.regs.hl + 1)) s (exec .ldMemHlIncA s)

/-- The word loads (R150 to R155) complete: PUSH stores at SP − 1 and SP − 2 and moves SP, POP moves SP and writes
its pair, LD (nn),SP stores at nn and nn + 1; nothing else changes. -/
def Obligations.WordLoadFrames : Prop :=
  ∀ s : State,
    (∀ rr nn, Completes [] 0 (s.regs.set16 rr nn) s (exec (Instr.ldReg16Imm rr nn) s)) ∧
    (∀ nn, Completes [nn, nn + 1] 2 s.regs s (exec (.ldMemNnSp nn) s)) ∧
    Completes [] 1 { s.regs with sp := s.regs.hl } s (exec .ldSpHl s) ∧
    (∀ e, Completes [] 1 { s.regs.set16 .hl (addSpE s.regs.sp e) with f := addSpEFlags s.regs.sp e } s
      (exec (.ldHlSpE8 e) s)) ∧
    (∀ qq, Completes [s.regs.sp - 1, s.regs.sp - 2] 3 { s.regs with sp := s.regs.sp - 2 } s
      (exec (Instr.pushReg qq) s)) ∧
    (∀ qq, Completes [] 2 (Regs.setStack { s.regs with sp := s.regs.sp + 2 } qq (popWord s)) s
      (exec (Instr.popReg qq) s))

/-- The byte and word arithmetic (R160 to R204) completes: only the destination and F change among the registers, F
not at all in INC rr and DEC rr, and only INC (HL) and DEC (HL) store. -/
def Obligations.ArithmeticFrames : Prop :=
  ∀ s : State,
    (∀ op r, ∃ a f, (op = .cp → a = s.regs.a) ∧
      Completes [] 0 { s.regs with a := a, f := f } s (exec (Instr.aluReg op r) s)) ∧
    (∀ op, ∃ a f, (op = .cp → a = s.regs.a) ∧
      Completes [] 1 { s.regs with a := a, f := f } s (exec (Instr.aluMemHl op) s)) ∧
    (∀ op n, ∃ a f, (op = .cp → a = s.regs.a) ∧
      Completes [] 0 { s.regs with a := a, f := f } s (exec (Instr.aluImm op n) s)) ∧
    (∀ r, ∃ v f, f.c = s.regs.f.c ∧ Completes [] 0 { s.regs.set8 r v with f := f } s (exec (Instr.incReg r) s)) ∧
    (∀ r, ∃ v f, f.c = s.regs.f.c ∧ Completes [] 0 { s.regs.set8 r v with f := f } s (exec (Instr.decReg r) s)) ∧
    (∃ f, f.c = s.regs.f.c ∧ Completes [s.regs.hl] 2 { s.regs with f := f } s (exec .incMemHl s)) ∧
    (∃ f, f.c = s.regs.f.c ∧ Completes [s.regs.hl] 2 { s.regs with f := f } s (exec .decMemHl s)) ∧
    (∃ a f, f.n = s.regs.f.n ∧ Completes [] 0 { s.regs with a := a, f := f } s (exec .daa s)) ∧
    Completes [] 0 { s.regs with a := ~~~s.regs.a, f := { s.regs.f with n := true, h := true } } s (exec .cpl s) ∧
    Completes [] 0 { s.regs with f := { s.regs.f with n := false, h := false, c := true } } s (exec .scf s) ∧
    Completes [] 0 { s.regs with f := { s.regs.f with n := false, h := false, c := !s.regs.f.c } } s (exec .ccf s) ∧
    (∀ rr, ∃ f, f.z = s.regs.f.z ∧ Completes [] 1
      { s.regs.set16 .hl (s.regs.hl + s.regs.get16 rr) with f := f } s (exec (Instr.addHlReg16 rr) s)) ∧
    (∀ rr, Completes [] 1 (s.regs.set16 rr (s.regs.get16 rr + 1)) s (exec (Instr.incReg16 rr) s)) ∧
    (∀ rr, Completes [] 1 (s.regs.set16 rr (s.regs.get16 rr - 1)) s (exec (Instr.decReg16 rr) s)) ∧
    (∀ e, Completes [] 2 { s.regs with sp := addSpE s.regs.sp e, f := addSpEFlags s.regs.sp e } s
      (exec (.addSpE8 e) s))

/-- The rotates, shifts and bit operations (R210 to R235) complete: only the operand and F change, Cy is kept by BIT
and all flags by RES and SET, and only the (HL) forms that write back store. -/
def Obligations.RotateBitFrames : Prop :=
  ∀ s : State,
    (∀ i ∈ [Instr.rlca, .rrca, .rla, .rra], ∃ a f, Completes [] 0 { s.regs with a := a, f := f } s (exec i s)) ∧
    (∀ op r, ∃ v f, Completes [] 0 { s.regs.set8 r v with f := f } s (exec (Instr.shiftReg op r) s)) ∧
    (∀ op, ∃ f, Completes [s.regs.hl] 2 { s.regs with f := f } s (exec (Instr.shiftMemHl op) s)) ∧
    (∀ b r, ∃ f, f.c = s.regs.f.c ∧ Completes [] 0 { s.regs with f := f } s (exec (Instr.bitReg b r) s)) ∧
    (∀ b, ∃ f, f.c = s.regs.f.c ∧ Completes [] 1 { s.regs with f := f } s (exec (Instr.bitMemHl b) s)) ∧
    (∀ b r, ∃ v, Completes [] 0 (s.regs.set8 r v) s (exec (Instr.resReg b r) s)) ∧
    (∀ b r, ∃ v, Completes [] 0 (s.regs.set8 r v) s (exec (Instr.setReg b r) s)) ∧
    (∀ b, Completes [s.regs.hl] 2 s.regs s (exec (Instr.resMemHl b) s)) ∧
    (∀ b, Completes [s.regs.hl] 2 s.regs s (exec (Instr.setMemHl b) s))

/-- The control transfers but RETI (R241 to R249, R251) complete: only PC, and SP in calls, restarts and returns,
change; a call or restart that is taken stores at SP − 1 and SP − 2; F is read and not written. -/
def Obligations.ControlFrames : Prop :=
  ∀ s : State,
    (∀ nn, Completes [] 1 { s.regs with pc := nn } s (exec (.jpNn nn) s)) ∧
    (∀ cc nn, Completes [] (if s.regs.f.holds cc then 1 else 0)
      (if s.regs.f.holds cc then { s.regs with pc := nn } else s.regs) s (exec (Instr.jpCond cc nn) s)) ∧
    Completes [] 0 { s.regs with pc := s.regs.hl } s (exec .jpHl s) ∧
    (∀ e, Completes [] 1 { s.regs with pc := s.regs.pc + sext16 e } s (exec (.jrE8 e) s)) ∧
    (∀ cc e, Completes [] (if s.regs.f.holds cc then 1 else 0)
      (if s.regs.f.holds cc then { s.regs with pc := s.regs.pc + sext16 e } else s.regs) s
      (exec (Instr.jrCond cc e) s)) ∧
    (∀ nn, Completes [s.regs.sp - 1, s.regs.sp - 2] 3 { s.regs with sp := s.regs.sp - 2, pc := nn } s
      (exec (.callNn nn) s)) ∧
    (∀ cc nn, Completes (if s.regs.f.holds cc then [s.regs.sp - 1, s.regs.sp - 2] else [])
      (if s.regs.f.holds cc then 3 else 0)
      (if s.regs.f.holds cc then { s.regs with sp := s.regs.sp - 2, pc := nn } else s.regs) s
      (exec (Instr.callCond cc nn) s)) ∧
    (∀ t, Completes [s.regs.sp - 1, s.regs.sp - 2] 3 { s.regs with sp := s.regs.sp - 2, pc := rstTarget t } s
      (exec (Instr.rst t) s)) ∧
    Completes [] 3 { s.regs with sp := s.regs.sp + 2, pc := popWord s } s (exec .ret s) ∧
    (∀ cc, Completes [] (if s.regs.f.holds cc then 4 else 1)
      (if s.regs.f.holds cc then { s.regs with sp := s.regs.sp + 2, pc := popWord (internal s) } else s.regs) s
      (exec (Instr.retCond cc) s))

/-! ## Arithmetic -/

/-- The 8-bit ALU law (R160), row by row: the result modulo 256 and the flags z, n, h and c. -/
def Obligations.AluLaw : Prop :=
  ∀ (op : AluOp) (a v : Byte) (cin : Bool),
    let c : Nat := if cin then 1 else 0
    let o := alu op a v cin
    (o.flags.z = true ↔ o.res = 0) ∧
    (op = .add → o.res.toNat = (a.toNat + v.toNat) % 256 ∧ o.flags.n = false ∧
      (o.flags.h = true ↔ a.toNat % 16 + v.toNat % 16 > 0xF) ∧ (o.flags.c = true ↔ a.toNat + v.toNat > 0xFF)) ∧
    (op = .adc → o.res.toNat = (a.toNat + v.toNat + c) % 256 ∧ o.flags.n = false ∧
      (o.flags.h = true ↔ a.toNat % 16 + v.toNat % 16 + c > 0xF) ∧
      (o.flags.c = true ↔ a.toNat + v.toNat + c > 0xFF)) ∧
    (op = .sub ∨ op = .cp → (o.res.toNat : Int) = ((a.toNat : Int) - v.toNat) % 256 ∧ o.flags.n = true ∧
      (o.flags.h = true ↔ a.toNat % 16 < v.toNat % 16) ∧ (o.flags.c = true ↔ a.toNat < v.toNat)) ∧
    (op = .sbc → (o.res.toNat : Int) = ((a.toNat : Int) - v.toNat - c) % 256 ∧ o.flags.n = true ∧
      (o.flags.h = true ↔ a.toNat % 16 < v.toNat % 16 + c) ∧ (o.flags.c = true ↔ a.toNat < v.toNat + c)) ∧
    (op = .and → o.res = a &&& v ∧ o.flags.n = false ∧ o.flags.h = true ∧ o.flags.c = false) ∧
    (op = .xor → o.res = a ^^^ v ∧ o.flags.n = false ∧ o.flags.h = false ∧ o.flags.c = false) ∧
    (op = .or → o.res = a ||| v ∧ o.flags.n = false ∧ o.flags.h = false ∧ o.flags.c = false)

/-- DAA is the decimal adjustment (R189): after ADD or ADC of two decimal bytes it leaves the decimal sum and the
carry to the hundreds, after SUB or SBC the decimal difference and the borrow. -/
def Obligations.DaaIsDecimal : Prop :=
  ∀ (x y : Nat) (cin : Bool), x < 100 → y < 100 →
    let c : Nat := if cin then 1 else 0
    let sum := alu .adc (bcd x) (bcd y) cin
    let diff := alu .sbc (bcd x) (bcd y) cin
    (daaByte sum.res sum.flags).res = bcd ((x + y + c) % 100) ∧
    ((daaByte sum.res sum.flags).flags.c = true ↔ x + y + c ≥ 100) ∧
    (daaByte diff.res diff.flags).res = bcd ((x + 100 - y - c) % 100) ∧
    ((daaByte diff.res diff.flags).flags.c = true ↔ x < y + c)

/-- The rotates, the shifts, RES and SET bit by bit (R210 to R234): where bit `i` of the result comes from. -/
def Obligations.ShiftBits : Prop :=
  ∀ (v : Byte) (cin : Bool) (i : Nat), i < 8 →
    (shiftResult .rlc v cin).getLsbD i = v.getLsbD ((i + 7) % 8) ∧
    (shiftResult .rrc v cin).getLsbD i = v.getLsbD ((i + 1) % 8) ∧
    (shiftResult .rl v cin).getLsbD i = (if i = 0 then cin else v.getLsbD (i - 1)) ∧
    (shiftResult .rr v cin).getLsbD i = (if i = 7 then cin else v.getLsbD (i + 1)) ∧
    (shiftResult .sla v cin).getLsbD i = (if i = 0 then false else v.getLsbD (i - 1)) ∧
    (shiftResult .sra v cin).getLsbD i = (if i = 7 then v.getLsbD 7 else v.getLsbD (i + 1)) ∧
    (shiftResult .swap v cin).getLsbD i = v.getLsbD ((i + 4) % 8) ∧
    (shiftResult .srl v cin).getLsbD i = (if i = 7 then false else v.getLsbD (i + 1)) ∧
    (∀ op ∈ [ShiftOp.rlc, .rl, .sla], shiftCarry op v = v.getLsbD 7) ∧
    (∀ op ∈ [ShiftOp.rrc, .rr, .sra, .srl], shiftCarry op v = v.getLsbD 0) ∧ shiftCarry .swap v = false ∧
    (∀ b : Oct, (resByte b v).getLsbD i = (if i = b.toNat then false else v.getLsbD i) ∧
      (setByte b v).getLsbD i = (if i = b.toNat then true else v.getLsbD i))

/-- `AddSpE(sp, e)` (R200), as ADD SP,e8 leaves it in SP and LD HL,SP+e8 in HL: the sum with the signed offset modulo
2^16, h and c the carries of the unsigned addition of `e` to the low byte of SP, Z and N clear. -/
def Obligations.AddSpELaw : Prop :=
  ∀ (s : State) (e : Byte), ∃ t u, exec (.addSpE8 e) s = .next t ∧ exec (.ldHlSpE8 e) s = .next u ∧
    (t.regs.sp.toNat : Int) = (s.regs.sp.toNat + e.toInt) % 65536 ∧ u.regs.hl = t.regs.sp ∧ u.regs.f = t.regs.f ∧
    (t.regs.f.h = true ↔ s.regs.sp.toNat % 16 + e.toNat % 16 > 0xF) ∧
    (t.regs.f.c = true ↔ s.regs.sp.toNat % 256 + e.toNat > 0xFF) ∧
    t.regs.f.z = false ∧ t.regs.f.n = false

/-- The conditions (R240): the four values of the cc field select the predicates on Z and Cy, and the conditional
instructions leave F as it is. -/
def Obligations.Conditions : Prop :=
  (∀ f : Flags,
    (f.holds .nz = true ↔ f.z = false) ∧ (f.holds .z = true ↔ f.z = true) ∧
    (f.holds .nc = true ↔ f.c = false) ∧ (f.holds .c = true ↔ f.c = true)) ∧
  (∀ p ∈ [(0#8, Cond.nz), (1#8, Cond.z), (2#8, Cond.nc), (3#8, Cond.c)], ∀ (lo hi : Byte) (rest : List Byte),
    decode ((0xC2 ||| p.1 <<< 3) :: lo :: hi :: rest) = .ok (Instr.jpCond p.2 (wordOf hi lo), rest) ∧
    decode ((0x20 ||| p.1 <<< 3) :: lo :: rest) = .ok (Instr.jrCond p.2 lo, rest) ∧
    decode ((0xC4 ||| p.1 <<< 3) :: lo :: hi :: rest) = .ok (Instr.callCond p.2 (wordOf hi lo), rest) ∧
    decode ((0xC0 ||| p.1 <<< 3) :: rest) = .ok (Instr.retCond p.2, rest)) ∧
  ∀ (cc : Cond) (nn : Word) (e : Byte) (s : State),
    ∀ i ∈ [Instr.jpCond cc nn, Instr.jrCond cc e, Instr.callCond cc nn, Instr.retCond cc],
      ∃ t, exec i s = .next t ∧ t.regs.f = s.regs.f

/-- The register file (R20 to R22): a write changes the register it names and no other; a pair is its two registers,
the first the high byte; a byte written to F reads back with its low nibble 0. -/
def Obligations.RegisterFile : Prop :=
  ∀ (r : Regs) (v : Byte) (w : Word),
    (∀ i j, (r.set8 i v).get8 j = if j = i then v else r.get8 j) ∧
    (∀ i, (r.set8 i v).f = r.f ∧ (r.set8 i v).sp = r.sp ∧ (r.set8 i v).pc = r.pc) ∧
    (∀ i j, (r.set16 i w).get16 j = if j = i then w else r.get16 j) ∧
    (∀ i, (r.set16 i w).a = r.a ∧ (r.set16 i w).f = r.f ∧ (r.set16 i w).pc = r.pc) ∧
    (r.get16 .bc = r.b ++ r.c ∧ r.get16 .de = r.d ++ r.e ∧ r.get16 .hl = r.h ++ r.l ∧
      r.getStack .af = r.a ++ r.f.toByte) ∧
    (r.setStack .af w).getStack .af = w &&& 0xFFF0 ∧ (Flags.ofByte v).toByte = v &&& 0xF0

/-! ## The bus -/

/-- The blocking of CPU-side accesses (R80 to R83): by DMA outside FF80–FFFE, by mode 3 in VRAM and OAM, by mode 2 in
OAM; a blocked read gives 0xFF, a blocked write changes nothing, and no other access is blocked. Spec decisions: D39.
-/
def Obligations.Blocking : Prop :=
  ∀ (s : State) (a : Word) (v : Byte),
    let blocked := (s.dma.active = true ∧ ¬ (0xFF80 ≤ a.toNat ∧ a.toNat ≤ 0xFFFE)) ∨
      (s.ppu.mode = .pixelXfer ∧ 0x8000 ≤ a.toNat ∧ a.toNat ≤ 0x9FFF) ∨
      ((s.ppu.mode = .oamScan ∨ s.ppu.mode = .pixelXfer) ∧ 0xFE00 ≤ a.toNat ∧ a.toNat ≤ 0xFE9F)
    (blocked → cpuRead s a = 0xFF ∧ afterCpuRead a s = s ∧ cpuWrite a v s = s) ∧
    (¬ blocked → cpuRead s a = busRead s a ∧ cpuWrite a v s = busWrite a v s)

/-- Plain storage (R75, R71): in VRAM, WRAM, OAM and HRAM a read gives the byte last written there, and a write
changes no other byte of them. -/
def Obligations.PlainStorage : Prop :=
  ∀ (s : State) (a b : Word) (v : Byte), isRam a.toNat → isRam b.toNat →
    busRead (busWrite a v s) b = (if b = a then v else busRead s b) ∧
    (busWrite a v s).regs = s.regs ∧ (busWrite a v s).ppu = s.ppu ∧ (busWrite a v s).timer = s.timer

/-- Echo RAM (R72): an access to E000–FDFF is the same access to the address 0x2000 lower, for reads and writes
alike. -/
def Obligations.EchoRam : Prop :=
  ∀ (s : State) (a : Word) (v : Byte), 0xE000 ≤ a.toNat → a.toNat ≤ 0xFDFF →
    busRead s a = busRead s (a - 0x2000) ∧ busWrite a v s = busWrite (a - 0x2000) v s

/-- The prohibited region (R73): reads return 0xFF and writes change nothing. -/
def Obligations.ProhibitedRegion : Prop :=
  ∀ (s : State) (a : Word) (v : Byte), 0xFEA0 ≤ a.toNat → a.toNat ≤ 0xFEFF →
    busRead s a = 0xFF ∧ afterBusRead a s = s ∧ busWrite a v s = s

/-- Unclaimed I/O (R94): an address in FF00–FF7F outside the owners of R74 reads 0xFF, and a write there is ignored.
Spec decisions: D7. -/
def Obligations.UnclaimedIo : Prop :=
  ∀ (s : State) (a : Word) (v : Byte), 0xFF00 ≤ a.toNat → a.toNat ≤ 0xFF7F →
    ¬ (0xFF00 ≤ a.toNat ∧ a.toNat ≤ 0xFF02) → ¬ (0xFF04 ≤ a.toNat ∧ a.toNat ≤ 0xFF07) → a ≠ 0xFF0F →
    ¬ (0xFF10 ≤ a.toNat ∧ a.toNat ≤ 0xFF3F) → ¬ (0xFF40 ≤ a.toNat ∧ a.toNat ≤ 0xFF4B) → a ≠ 0xFF50 →
    busRead s a = 0xFF ∧ busWrite a v s = s

/-- What the block's registers store and read back (R33, R34, R36 to R51): the read-as-one bits of IF, TAC and STAT,
the read-only fields, IE's eight bits, and the registers that read back as written. Spec decisions: D8, D20, D37,
D40, D43, D54. -/
def Obligations.RegisterReads : Prop :=
  ∀ (s : State) (v : Byte),
    busRead (busWrite 0xFF0F v s) 0xFF0F = v ||| 0xE0 ∧
    busRead (busWrite 0xFFFF v s) 0xFFFF = v ∧
    busRead s 0xFF04 = s.timer.sysCounter.extractLsb' 8 8 ∧
    busRead (busWrite 0xFF05 v s) 0xFF05 = v ∧ busRead (busWrite 0xFF06 v s) 0xFF06 = v ∧
    busRead s 0xFF07 = 0xF8 ||| s.timer.tac.setWidth 8 ∧ (busWrite 0xFF07 v s).timer.tac = v.setWidth 3 ∧
    busRead (busWrite 0xFF40 v s) 0xFF40 = v ∧
    busRead (busWrite 0xFF41 v s) 0xFF41 = (0x80 ||| (v &&& 0x78)) ||| (busRead s 0xFF41 &&& 0x07) ∧
    busWrite 0xFF44 v s = s ∧ busRead s 0xFF44 = BitVec.ofNat 8 s.ppu.ly ∧
    (∀ a ∈ [0xFF42#16, 0xFF43#16, 0xFF45#16, 0xFF46#16, 0xFF47#16, 0xFF48#16, 0xFF49#16, 0xFF4A#16, 0xFF4B#16],
      busRead (busWrite a v s) a = v) ∧
    busRead s 0xFF50 = 0xFF ∧ (busWrite 0xFF50 v s).bootMapped = false

/-- The boot overlay (R77, R51, R79): while it is mapped a read of 0000–00FF gives the boot image, a write there goes
to the cartridge all the same, and after a write to FF50 the read gives the cartridge's answer. The known bytes of
the image and the cartridge are the model's (log entries 4 and 5). Spec decisions: D33, D40. -/
def Obligations.BootOverlay : Prop :=
  ∀ (s : State) (a : Word) (b v w : Byte), a.toNat ≤ 0x00FF →
    (s.bootMapped = true → Memory.read s.env.bootRom a.toNat = some b → busRead s a = b) ∧
    (busWrite a v s).env.outputs = s.env.outputs ++ [.cartWrite a v] ∧
    (Memory.read s.env.cart a.toNat = some b → busRead (busWrite 0xFF50 w s) a = b)

/-- A pushed word is popped again (R11, R87, R252): with the stack in WRAM, `Push16(v)` and then `Pop16()` give `v`
and leave SP as it was, whatever the other agents do in between, but for a running DMA copy, which blocks the stack.
Spec decisions: D1. -/
def Obligations.PushThenPop : Prop :=
  ∀ (s : State) (v : Word), s.dma.active = false →
    0xC002 ≤ s.regs.sp.toNat → s.regs.sp.toNat ≤ 0xE000 →
    popWord (push16 v s) = v ∧ (pop16 (push16 v s)).regs = s.regs

/-! ## The timer -/

/-- One timer T-cycle (R324 to R326): the window's count runs down, and at its end TIMA is loaded from TMA and line 2
requested; then the counter increments and a falling edge of `TAC[2] & sys_counter[sel]` increments TIMA, FF going to
00 with a new window of 4. Spec decisions: D15, D16. -/
def Obligations.TimerCycle : Prop :=
  ∀ s : State, ∃ u : Timer,
    u = { s.timer with
      reloadCountdown := s.timer.reloadCountdown - 1
      tima := if s.timer.reloadCountdown = 1 then s.timer.tma else s.timer.tima
      sysCounter := s.timer.sysCounter + 1
      signalPrev := s.timer.tac.getLsbD 2 && (s.timer.sysCounter + 1).getLsbD
        (if s.timer.tac.extractLsb' 0 2 = 0 then 9 else if s.timer.tac.extractLsb' 0 2 = 1 then 3
          else if s.timer.tac.extractLsb' 0 2 = 2 then 5 else 7) } ∧
    timerT s = { s with
      ifReg := if s.timer.reloadCountdown = 1 then s.ifReg ||| 4 else s.ifReg
      timer :=
        if s.timer.signalPrev = true ∧ u.signalPrev = false then
          if u.tima = 0xFF then { u with tima := 0, reloadCountdown := 4 } else { u with tima := u.tima + 1 }
        else u }

/-- The overflow window (R326, R435): where a T-cycle takes TIMA from FF, TIMA is 0x00 after that T-cycle and the
three after it, with no request of line 2 from the timer, and the next one loads TMA and requests line 2. Spec
decisions: D15, D16. -/
def Obligations.OverflowWindow : Prop :=
  ∀ s : State, s.timer.Inv → s.timer.reloadCountdown = 0 → s.timer.tima = 0xFF → (timerT s).timer.tima ≠ 0xFF →
    (∀ n, 1 ≤ n → n ≤ 4 → (timerT^[n] s).timer.tima = 0x00 ∧ (timerT^[n] s).ifReg = s.ifReg) ∧
    (timerT^[5] s).timer.tima = s.timer.tma ∧ (timerT^[5] s).ifReg = s.ifReg ||| 4

/-- Writes to the timer's registers (R322, R327 to R329): DIV resets the counter and can clock TIMA by the falling
edge; TIMA stores and aborts the reload; TMA stores; TAC stores three bits and can clock TIMA, but setting the enable
does not. Spec decisions: D15, D16. -/
def Obligations.TimerWrites : Prop :=
  ∀ (s : State) (v : Byte), s.timer.Inv →
    (busWrite 0xFF04 v s).timer.sysCounter = 0 ∧
    ((busWrite 0xFF04 v s).timer.tima =
      if s.timer.tac.getLsbD 2 && s.timer.sysCounter.getLsbD (timerSelect s.timer.tac) then s.timer.tima + 1
      else s.timer.tima) ∧
    (busWrite 0xFF05 v s).timer = { s.timer with tima := v, reloadCountdown := 0 } ∧
    (busWrite 0xFF06 v s).timer = { s.timer with tma := v } ∧
    (busWrite 0xFF07 v s).timer.tac = v.setWidth 3 ∧
    ((busWrite 0xFF07 v s).timer.tima =
      if (s.timer.tac.getLsbD 2 && s.timer.sysCounter.getLsbD (timerSelect s.timer.tac)) &&
          !(v.getLsbD 2 && s.timer.sysCounter.getLsbD (timerSelect (v.setWidth 3))) then s.timer.tima + 1
      else s.timer.tima)

/-! ## OAM DMA -/

/-- A CPU write to FF46 that is not blocked starts a copy (R340): in the access part of its M-cycle the register, the
source, the index and the sub-count are set; the same M-cycle copies byte 0, so no delay; any value is accepted. Spec
decisions: D17. -/
def Obligations.DmaStart : Prop :=
  ∀ (s : State) (v : Byte), s.dma.active = false →
    cpuWrite 0xFF46 v s = { s with dma := { reg := v, active := true, src := v ++ 0#8, index := 0, sub := 0 } } ∧
    (memWrite 0xFF46 v s).dma.index = 1 ∧ (memWrite 0xFF46 v s).dma.active = true

/-- The whole copy (R341 to R343, R347): the M-cycle of the FF46 write and 159 more leave OAM equal to the source
page, for a page in VRAM, WRAM or its echo, and the engine idle; one M-cycle earlier it is still active. Spec
decisions: D17, D18, D19, D51. -/
def Obligations.DmaCopiesPage : Prop :=
  ∀ (s : State) (v : Byte), s.dma.active = false →
    (internal^[158] (memWrite 0xFF46 v s)).dma.active = true ∧
    (internal^[159] (memWrite 0xFF46 v s)).dma.active = false ∧
    ∀ k x, k < 160 → v.toNat < 0xFE → storageOf ((v ++ 0#8) + BitVec.ofNat 16 k) = some x →
      ramRead (internal^[159] (memWrite 0xFF46 v s)) (0xFE00 + k) = ramRead s x

/-! ## The PPU -/

/-- The frame (R360, R361, R390): while the LCD is on and the CPU stores nothing, `n` M-cycles advance the position
`456·LY + dot` by 4n modulo 70224, whatever the length of mode 3. Spec decisions: D23. -/
def Obligations.FrameTiming : Prop :=
  ∀ (n : Nat) (s : State), s.Inv → s.ppu.lcdOn = true →
    (internal^[n] s).ppu.lcdOn = true ∧
    456 * (internal^[n] s).ppu.ly + (internal^[n] s).ppu.dot = (456 * s.ppu.ly + s.ppu.dot + 4 * n) % 70224

/-- V-blank (R363, R384): line 0 is requested in the dot that makes LY 144 and in no other, and mode 1 is entered;
from mode 0, the framebuffers are exchanged and the finished one is handed to the sink. Spec decisions: D30. -/
def Obligations.VblankEntry : Prop :=
  ∀ s : State, s.ppu.Inv → s.ppu.lcdOn = true →
    (ppuT s).ifReg.getLsbD 0 = (s.ifReg.getLsbD 0 || decide (s.ppu.ly = 143 ∧ s.ppu.dot = 455)) ∧
    (s.ppu.ly = 143 → s.ppu.dot = 455 → (ppuT s).ppu.mode = .vblank ∧ (ppuT s).ppu.ly = 144) ∧
    (s.ppu.ly = 143 → s.ppu.dot = 455 → s.ppu.mode = .hblank → (ppuT s).ppu.visibleFb = s.ppu.drawFb ∧
      (ppuT s).ppu.drawFb = s.ppu.visibleFb ∧ (ppuT s).env.outputs = s.env.outputs ++ [.present s.ppu.drawFb])

/-- The LY compare (R365): the flag follows `ly = LYC` and its rising edge requests line 1 if STAT bit 6 is set. Spec
decisions: D22. -/
def Obligations.LyCompare : Prop :=
  ∀ s : State,
    lycUpdate s = { s with
      ppu := { s.ppu with lycEqual := decide (s.ppu.ly = s.ppu.lyc.toNat) }
      ifReg := if s.ppu.ly = s.ppu.lyc.toNat ∧ s.ppu.lycEqual = false ∧ s.ppu.statSel.getLsbD 3 = true then
        s.ifReg ||| 2 else s.ifReg }

/-- The OAM scan (R366): from dot 0 of mode 2, 80 dots later the PPU is in mode 3 with the first ten OAM entries, in
OAM order, whose Y range includes LY. Spec decisions: D23, D26. -/
def Obligations.OamScan : Prop :=
  ∀ s : State, s.ppu.Inv → s.ppu.lcdOn = true → s.ppu.mode = .oamScan → s.ppu.dot = 0 → s.ppu.sprites = [] →
    (ppuT^[80] s).ppu.mode = .pixelXfer ∧ (ppuT^[80] s).ppu.dot = 80 ∧
    (ppuT^[80] s).ppu.sprites.map Sprite.index =
      ((List.range 40).filter fun i =>
        decide ((ramRead s (0xFE00 + 4 * i)).toNat ≤ s.ppu.ly + 16) &&
        decide (s.ppu.ly + 16 < (ramRead s (0xFE00 + 4 * i)).toNat + (if s.ppu.lcdc.getLsbD 2 then 16 else 8))).take 10

/-- The background and window fetcher stays in VRAM (R370, R371): map addresses lie in 9800–9FFF, unsigned tile data
in 8000–8FFF, signed tile data in 8800–97FF, and the tile data address is that of the tile's row. -/
def Obligations.FetcherAddresses : Prop :=
  ∀ (p : Ppu) (id : Byte),
    (0x9800 ≤ p.mapAddr ∧ p.mapAddr ≤ 0x9FFF) ∧
    (p.windowActive = true → p.mapAddr =
      (if p.lcdc.getLsbD 6 then 0x9C00 else 0x9800) + p.windowLine.toNat / 8 * 32 + p.fetchTileX.toNat) ∧
    (p.windowActive = false → p.mapAddr =
      (if p.lcdc.getLsbD 3 then 0x9C00 else 0x9800) + (p.ly + p.scy.toNat) % 256 / 8 * 32 +
        (p.scx.toNat / 8 + p.fetchTileX.toNat) % 32) ∧
    (p.lcdc.getLsbD 4 = true → 0x8000 ≤ p.tileAddr id ∧ p.tileAddr id + 1 ≤ 0x8FFF ∧
      p.tileAddr id = 0x8000 + 16 * id.toNat + 2 * p.tileRow) ∧
    (p.lcdc.getLsbD 4 = false → 0x8800 ≤ p.tileAddr id ∧ p.tileAddr id + 1 ≤ 0x97FF ∧
      (p.tileAddr id : Int) = 0x9000 + 16 * id.toInt + 2 * p.tileRow) ∧
    p.tileRow < 8

/-- The pixel mix and the palettes (R380, R381): an opaque sprite pixel wins unless its priority bit is set over a
background colour 1 to 3; with LCDC bit 0 clear the background is white and counts as colour 0. Spec decisions: D52. -/
def Obligations.PixelMix : Prop :=
  ∀ (p : Ppu) (b : Colour),
    p.mix b none = (if p.lcdc.getLsbD 0 then p.bgp.extractLsb' (2 * b.toNat) 2 else 0) ∧
    ∀ o : ObjPixel,
      (o.colour = 0 → p.mix b (some o) = p.mix b none) ∧
      (o.colour ≠ 0 → (o.priority = false ∨ p.lcdc.getLsbD 0 = false ∨ b = 0) →
        p.mix b (some o) = (if o.palette then p.obp1 else p.obp0).extractLsb' (2 * o.colour.toNat) 2) ∧
      (o.colour ≠ 0 → o.priority = true → p.lcdc.getLsbD 0 = true → b ≠ 0 → p.mix b (some o) = p.mix b none)

/-- The LCD switch (R385, R386, R389): clearing LCDC bit 7 resets the PPU's counters, forces mode 0, whitens the
frame being drawn and presents it once; setting it starts a frame at line 0, dot 0, mode 2; neither requests an
interrupt. Spec decisions: D27, D28, D37. -/
def Obligations.LcdSwitch : Prop :=
  ∀ (s : State) (v : Byte),
    (busWrite 0xFF40 v s).ifReg = s.ifReg ∧ (busWrite 0xFF40 v s).ppu.lcdc = v ∧
    (s.ppu.lcdc.getLsbD 7 = true → v.getLsbD 7 = false →
      (busWrite 0xFF40 v s).ppu.ly = 0 ∧ (busWrite 0xFF40 v s).ppu.dot = 0 ∧
      (busWrite 0xFF40 v s).ppu.mode = .hblank ∧ (busWrite 0xFF40 v s).ppu.sprites = [] ∧
      (busWrite 0xFF40 v s).ppu.bgFifo = [] ∧ (busWrite 0xFF40 v s).ppu.objFifo = [] ∧
      (∀ i, (busWrite 0xFF40 v s).ppu.drawFb.pixel i = 0) ∧
      (busWrite 0xFF40 v s).env.outputs = s.env.outputs ++ [.present []] ∧
      ppuT (busWrite 0xFF40 v s) = busWrite 0xFF40 v s) ∧
    (s.ppu.lcdc.getLsbD 7 = false → v.getLsbD 7 = true →
      busWrite 0xFF40 v s = { s with ppu := { s.ppu with lcdc := v, ly := 0, dot := 0, mode := .oamScan } }) ∧
    (s.ppu.lcdc.getLsbD 7 = v.getLsbD 7 → busWrite 0xFF40 v s = { s with ppu := { s.ppu with lcdc := v } })

/-! ## Reset and the invariant -/

/-- The PostBoot reset (R421, R423), as software reads it; OBP0, OBP1 and the memories are draws and are not stated.
Spec decisions: D31, D32, D43, D54. -/
def Obligations.PostBootReset : Prop :=
  let s := State.resetIn .postBoot
  s.regs.getStack .af = 0x01B0 ∧ s.regs.get16 .bc = 0x0013 ∧ s.regs.get16 .de = 0x00D8 ∧ s.regs.get16 .hl = 0x014D ∧
  s.regs.sp = 0xFFFE ∧ s.regs.pc = 0x0100 ∧ s.cycles = 0 ∧
  s.latch = { ime := false, imePending := false, halted := false, haltBug := false, stopped := false, locked := false } ∧
  busRead s 0xFF0F = 0xE1 ∧ busRead s 0xFFFF = 0 ∧ busRead s 0xFF04 = 0xAB ∧ s.timer.sysCounter = 0xABCC ∧
  busRead s 0xFF05 = 0 ∧ busRead s 0xFF06 = 0 ∧ busRead s 0xFF07 = 0xF8 ∧ s.timer.reloadCountdown = 0 ∧
  busRead s 0xFF40 = 0x91 ∧ busRead s 0xFF41 = 0x86 ∧ busRead s 0xFF42 = 0 ∧ busRead s 0xFF43 = 0 ∧
  busRead s 0xFF44 = 0 ∧ busRead s 0xFF45 = 0 ∧ busRead s 0xFF46 = 0xFF ∧ busRead s 0xFF47 = 0xFC ∧
  busRead s 0xFF4A = 0 ∧ busRead s 0xFF4B = 0 ∧ s.dma.active = false ∧ s.bootMapped = false ∧ s.ppu.dot = 0 ∧
  s.ppu.bgFifo = [] ∧ s.ppu.objFifo = [] ∧ s.ppu.sprites = [] ∧ s.ppu.lycEqual = true ∧
  ∀ i, s.ppu.drawFb.pixel i = 0 ∧ s.ppu.visibleFb.pixel i = 0

/-- The BootRom reset (R422, R423): zeros, LY = LYC = 0 so STAT reads 0x84, the LCD off, the overlay mapped, and
every byte of storage 0x00. Spec decisions: D31, D32, D33. -/
def Obligations.BootRomReset : Prop :=
  let s := State.resetIn .bootRom
  s.regs.getStack .af = 0 ∧ s.regs.get16 .bc = 0 ∧ s.regs.get16 .de = 0 ∧ s.regs.get16 .hl = 0 ∧ s.regs.sp = 0 ∧
  s.regs.pc = 0 ∧ s.cycles = 0 ∧
  s.latch = { ime := false, imePending := false, halted := false, haltBug := false, stopped := false, locked := false } ∧
  busRead s 0xFF0F = 0xE0 ∧ busRead s 0xFFFF = 0 ∧ s.timer.sysCounter = 0 ∧
  busRead s 0xFF05 = 0 ∧ busRead s 0xFF06 = 0 ∧ s.timer.tac = 0 ∧ busRead s 0xFF40 = 0 ∧ busRead s 0xFF41 = 0x84 ∧
  (∀ a ∈ [0xFF42#16, 0xFF43#16, 0xFF44#16, 0xFF45#16, 0xFF46#16, 0xFF47#16, 0xFF48#16, 0xFF49#16, 0xFF4A#16, 0xFF4B#16],
    busRead s a = 0) ∧
  s.ppu.lcdOn = false ∧ s.ppu.mode = .hblank ∧ s.bootMapped = true ∧ s.dma.active = false ∧
  (∀ x, ramRead s x = 0) ∧ ∀ i, s.ppu.drawFb.pixel i = 0 ∧ s.ppu.visibleFb.pixel i = 0

/-- The invariant holds at reset, in both modes. Spec decisions: D31, D32, D33, D43, D54. -/
def Obligations.InvariantAtReset : Prop := (∀ m, (State.resetIn m).Inv) ∧ State.reset.Inv

/-- Every step keeps the invariant (R52 to R57, R300, R390): canonical memory that lists only the block's storage,
the counters of the timer, the DMA engine and the PPU in their ranges, the edge detector in step with its input, the
PPU's mode in step with LCDC, `ly` and `dot`, at most 10 sprites in OAM order, FIFOs of at most 8 pixels, and at most
one idle state of the CPU. Spec decisions: D23, D24, D25, D26, D30, D31, D32, D54. -/
def Obligations.StepKeepsInvariant : Prop :=
  ∀ s t : State, s.Inv → step s = .next t → t.Inv

end
end

