-- ==== Sys2Proof/Laws/State.lean ====
section
/-! SUPPORT. One lemma per field per named update of State, and the registers behind the register updates: later proofs
rewrite with these and unfold no update. -/

namespace Sys2Proof.Machine

variable (s : State)

/-! ## setReg8 -/

@[simp] theorem State.setReg8_regs (i : Reg8) (v : Byte) : (s.setReg8 i v).regs = s.regs.set8 i v := rfl
@[simp] theorem State.setReg8_latch (i : Reg8) (v : Byte) : (s.setReg8 i v).latch = s.latch := rfl
@[simp] theorem State.setReg8_cycles (i : Reg8) (v : Byte) : (s.setReg8 i v).cycles = s.cycles := rfl
@[simp] theorem State.setReg8_ifReg (i : Reg8) (v : Byte) : (s.setReg8 i v).ifReg = s.ifReg := rfl
@[simp] theorem State.setReg8_ieReg (i : Reg8) (v : Byte) : (s.setReg8 i v).ieReg = s.ieReg := rfl
@[simp] theorem State.setReg8_timer (i : Reg8) (v : Byte) : (s.setReg8 i v).timer = s.timer := rfl
@[simp] theorem State.setReg8_dma (i : Reg8) (v : Byte) : (s.setReg8 i v).dma = s.dma := rfl
@[simp] theorem State.setReg8_ppu (i : Reg8) (v : Byte) : (s.setReg8 i v).ppu = s.ppu := rfl
@[simp] theorem State.setReg8_bootMapped (i : Reg8) (v : Byte) : (s.setReg8 i v).bootMapped = s.bootMapped := rfl
@[simp] theorem State.setReg8_mem (i : Reg8) (v : Byte) : (s.setReg8 i v).mem = s.mem := rfl
@[simp] theorem State.setReg8_env (i : Reg8) (v : Byte) : (s.setReg8 i v).env = s.env := rfl

/-! ## setReg16 -/

@[simp] theorem State.setReg16_regs (i : Reg16) (v : Word) : (s.setReg16 i v).regs = s.regs.set16 i v := rfl
@[simp] theorem State.setReg16_latch (i : Reg16) (v : Word) : (s.setReg16 i v).latch = s.latch := rfl
@[simp] theorem State.setReg16_cycles (i : Reg16) (v : Word) : (s.setReg16 i v).cycles = s.cycles := rfl
@[simp] theorem State.setReg16_ifReg (i : Reg16) (v : Word) : (s.setReg16 i v).ifReg = s.ifReg := rfl
@[simp] theorem State.setReg16_ieReg (i : Reg16) (v : Word) : (s.setReg16 i v).ieReg = s.ieReg := rfl
@[simp] theorem State.setReg16_timer (i : Reg16) (v : Word) : (s.setReg16 i v).timer = s.timer := rfl
@[simp] theorem State.setReg16_dma (i : Reg16) (v : Word) : (s.setReg16 i v).dma = s.dma := rfl
@[simp] theorem State.setReg16_ppu (i : Reg16) (v : Word) : (s.setReg16 i v).ppu = s.ppu := rfl
@[simp] theorem State.setReg16_bootMapped (i : Reg16) (v : Word) : (s.setReg16 i v).bootMapped = s.bootMapped := rfl
@[simp] theorem State.setReg16_mem (i : Reg16) (v : Word) : (s.setReg16 i v).mem = s.mem := rfl
@[simp] theorem State.setReg16_env (i : Reg16) (v : Word) : (s.setReg16 i v).env = s.env := rfl

/-! ## setStack -/

@[simp] theorem State.setStack_regs (i : StackReg) (v : Word) : (s.setStack i v).regs = s.regs.setStack i v := rfl
@[simp] theorem State.setStack_latch (i : StackReg) (v : Word) : (s.setStack i v).latch = s.latch := rfl
@[simp] theorem State.setStack_cycles (i : StackReg) (v : Word) : (s.setStack i v).cycles = s.cycles := rfl
@[simp] theorem State.setStack_ifReg (i : StackReg) (v : Word) : (s.setStack i v).ifReg = s.ifReg := rfl
@[simp] theorem State.setStack_ieReg (i : StackReg) (v : Word) : (s.setStack i v).ieReg = s.ieReg := rfl
@[simp] theorem State.setStack_timer (i : StackReg) (v : Word) : (s.setStack i v).timer = s.timer := rfl
@[simp] theorem State.setStack_dma (i : StackReg) (v : Word) : (s.setStack i v).dma = s.dma := rfl
@[simp] theorem State.setStack_ppu (i : StackReg) (v : Word) : (s.setStack i v).ppu = s.ppu := rfl
@[simp] theorem State.setStack_bootMapped (i : StackReg) (v : Word) : (s.setStack i v).bootMapped = s.bootMapped := rfl
@[simp] theorem State.setStack_mem (i : StackReg) (v : Word) : (s.setStack i v).mem = s.mem := rfl
@[simp] theorem State.setStack_env (i : StackReg) (v : Word) : (s.setStack i v).env = s.env := rfl

/-! ## setFlags -/

@[simp] theorem State.setFlags_regs (f : Flags) : (s.setFlags f).regs = { s.regs with f := f } := rfl
@[simp] theorem State.setFlags_latch (f : Flags) : (s.setFlags f).latch = s.latch := rfl
@[simp] theorem State.setFlags_cycles (f : Flags) : (s.setFlags f).cycles = s.cycles := rfl
@[simp] theorem State.setFlags_ifReg (f : Flags) : (s.setFlags f).ifReg = s.ifReg := rfl
@[simp] theorem State.setFlags_ieReg (f : Flags) : (s.setFlags f).ieReg = s.ieReg := rfl
@[simp] theorem State.setFlags_timer (f : Flags) : (s.setFlags f).timer = s.timer := rfl
@[simp] theorem State.setFlags_dma (f : Flags) : (s.setFlags f).dma = s.dma := rfl
@[simp] theorem State.setFlags_ppu (f : Flags) : (s.setFlags f).ppu = s.ppu := rfl
@[simp] theorem State.setFlags_bootMapped (f : Flags) : (s.setFlags f).bootMapped = s.bootMapped := rfl
@[simp] theorem State.setFlags_mem (f : Flags) : (s.setFlags f).mem = s.mem := rfl
@[simp] theorem State.setFlags_env (f : Flags) : (s.setFlags f).env = s.env := rfl

/-! ## setPc -/

@[simp] theorem State.setPc_regs (v : Word) : (s.setPc v).regs = { s.regs with pc := v } := rfl
@[simp] theorem State.setPc_latch (v : Word) : (s.setPc v).latch = s.latch := rfl
@[simp] theorem State.setPc_cycles (v : Word) : (s.setPc v).cycles = s.cycles := rfl
@[simp] theorem State.setPc_ifReg (v : Word) : (s.setPc v).ifReg = s.ifReg := rfl
@[simp] theorem State.setPc_ieReg (v : Word) : (s.setPc v).ieReg = s.ieReg := rfl
@[simp] theorem State.setPc_timer (v : Word) : (s.setPc v).timer = s.timer := rfl
@[simp] theorem State.setPc_dma (v : Word) : (s.setPc v).dma = s.dma := rfl
@[simp] theorem State.setPc_ppu (v : Word) : (s.setPc v).ppu = s.ppu := rfl
@[simp] theorem State.setPc_bootMapped (v : Word) : (s.setPc v).bootMapped = s.bootMapped := rfl
@[simp] theorem State.setPc_mem (v : Word) : (s.setPc v).mem = s.mem := rfl
@[simp] theorem State.setPc_env (v : Word) : (s.setPc v).env = s.env := rfl

/-! ## setSp -/

@[simp] theorem State.setSp_regs (v : Word) : (s.setSp v).regs = { s.regs with sp := v } := rfl
@[simp] theorem State.setSp_latch (v : Word) : (s.setSp v).latch = s.latch := rfl
@[simp] theorem State.setSp_cycles (v : Word) : (s.setSp v).cycles = s.cycles := rfl
@[simp] theorem State.setSp_ifReg (v : Word) : (s.setSp v).ifReg = s.ifReg := rfl
@[simp] theorem State.setSp_ieReg (v : Word) : (s.setSp v).ieReg = s.ieReg := rfl
@[simp] theorem State.setSp_timer (v : Word) : (s.setSp v).timer = s.timer := rfl
@[simp] theorem State.setSp_dma (v : Word) : (s.setSp v).dma = s.dma := rfl
@[simp] theorem State.setSp_ppu (v : Word) : (s.setSp v).ppu = s.ppu := rfl
@[simp] theorem State.setSp_bootMapped (v : Word) : (s.setSp v).bootMapped = s.bootMapped := rfl
@[simp] theorem State.setSp_mem (v : Word) : (s.setSp v).mem = s.mem := rfl
@[simp] theorem State.setSp_env (v : Word) : (s.setSp v).env = s.env := rfl

/-! ## setLatch -/

@[simp] theorem State.setLatch_regs (l : Latches) : (s.setLatch l).regs = s.regs := rfl
@[simp] theorem State.setLatch_latch (l : Latches) : (s.setLatch l).latch = l := rfl
@[simp] theorem State.setLatch_cycles (l : Latches) : (s.setLatch l).cycles = s.cycles := rfl
@[simp] theorem State.setLatch_ifReg (l : Latches) : (s.setLatch l).ifReg = s.ifReg := rfl
@[simp] theorem State.setLatch_ieReg (l : Latches) : (s.setLatch l).ieReg = s.ieReg := rfl
@[simp] theorem State.setLatch_timer (l : Latches) : (s.setLatch l).timer = s.timer := rfl
@[simp] theorem State.setLatch_dma (l : Latches) : (s.setLatch l).dma = s.dma := rfl
@[simp] theorem State.setLatch_ppu (l : Latches) : (s.setLatch l).ppu = s.ppu := rfl
@[simp] theorem State.setLatch_bootMapped (l : Latches) : (s.setLatch l).bootMapped = s.bootMapped := rfl
@[simp] theorem State.setLatch_mem (l : Latches) : (s.setLatch l).mem = s.mem := rfl
@[simp] theorem State.setLatch_env (l : Latches) : (s.setLatch l).env = s.env := rfl

/-! ## setIf -/

@[simp] theorem State.setIf_regs (v : BitVec 5) : (s.setIf v).regs = s.regs := rfl
@[simp] theorem State.setIf_latch (v : BitVec 5) : (s.setIf v).latch = s.latch := rfl
@[simp] theorem State.setIf_cycles (v : BitVec 5) : (s.setIf v).cycles = s.cycles := rfl
@[simp] theorem State.setIf_ifReg (v : BitVec 5) : (s.setIf v).ifReg = v := rfl
@[simp] theorem State.setIf_ieReg (v : BitVec 5) : (s.setIf v).ieReg = s.ieReg := rfl
@[simp] theorem State.setIf_timer (v : BitVec 5) : (s.setIf v).timer = s.timer := rfl
@[simp] theorem State.setIf_dma (v : BitVec 5) : (s.setIf v).dma = s.dma := rfl
@[simp] theorem State.setIf_ppu (v : BitVec 5) : (s.setIf v).ppu = s.ppu := rfl
@[simp] theorem State.setIf_bootMapped (v : BitVec 5) : (s.setIf v).bootMapped = s.bootMapped := rfl
@[simp] theorem State.setIf_mem (v : BitVec 5) : (s.setIf v).mem = s.mem := rfl
@[simp] theorem State.setIf_env (v : BitVec 5) : (s.setIf v).env = s.env := rfl

/-! ## setTimer -/

@[simp] theorem State.setTimer_regs (t : Timer) : (s.setTimer t).regs = s.regs := rfl
@[simp] theorem State.setTimer_latch (t : Timer) : (s.setTimer t).latch = s.latch := rfl
@[simp] theorem State.setTimer_cycles (t : Timer) : (s.setTimer t).cycles = s.cycles := rfl
@[simp] theorem State.setTimer_ifReg (t : Timer) : (s.setTimer t).ifReg = s.ifReg := rfl
@[simp] theorem State.setTimer_ieReg (t : Timer) : (s.setTimer t).ieReg = s.ieReg := rfl
@[simp] theorem State.setTimer_timer (t : Timer) : (s.setTimer t).timer = t := rfl
@[simp] theorem State.setTimer_dma (t : Timer) : (s.setTimer t).dma = s.dma := rfl
@[simp] theorem State.setTimer_ppu (t : Timer) : (s.setTimer t).ppu = s.ppu := rfl
@[simp] theorem State.setTimer_bootMapped (t : Timer) : (s.setTimer t).bootMapped = s.bootMapped := rfl
@[simp] theorem State.setTimer_mem (t : Timer) : (s.setTimer t).mem = s.mem := rfl
@[simp] theorem State.setTimer_env (t : Timer) : (s.setTimer t).env = s.env := rfl

/-! ## setDma -/

@[simp] theorem State.setDma_regs (d : Dma) : (s.setDma d).regs = s.regs := rfl
@[simp] theorem State.setDma_latch (d : Dma) : (s.setDma d).latch = s.latch := rfl
@[simp] theorem State.setDma_cycles (d : Dma) : (s.setDma d).cycles = s.cycles := rfl
@[simp] theorem State.setDma_ifReg (d : Dma) : (s.setDma d).ifReg = s.ifReg := rfl
@[simp] theorem State.setDma_ieReg (d : Dma) : (s.setDma d).ieReg = s.ieReg := rfl
@[simp] theorem State.setDma_timer (d : Dma) : (s.setDma d).timer = s.timer := rfl
@[simp] theorem State.setDma_dma (d : Dma) : (s.setDma d).dma = d := rfl
@[simp] theorem State.setDma_ppu (d : Dma) : (s.setDma d).ppu = s.ppu := rfl
@[simp] theorem State.setDma_bootMapped (d : Dma) : (s.setDma d).bootMapped = s.bootMapped := rfl
@[simp] theorem State.setDma_mem (d : Dma) : (s.setDma d).mem = s.mem := rfl
@[simp] theorem State.setDma_env (d : Dma) : (s.setDma d).env = s.env := rfl

/-! ## setPpu -/

@[simp] theorem State.setPpu_regs (p : Ppu) : (s.setPpu p).regs = s.regs := rfl
@[simp] theorem State.setPpu_latch (p : Ppu) : (s.setPpu p).latch = s.latch := rfl
@[simp] theorem State.setPpu_cycles (p : Ppu) : (s.setPpu p).cycles = s.cycles := rfl
@[simp] theorem State.setPpu_ifReg (p : Ppu) : (s.setPpu p).ifReg = s.ifReg := rfl
@[simp] theorem State.setPpu_ieReg (p : Ppu) : (s.setPpu p).ieReg = s.ieReg := rfl
@[simp] theorem State.setPpu_timer (p : Ppu) : (s.setPpu p).timer = s.timer := rfl
@[simp] theorem State.setPpu_dma (p : Ppu) : (s.setPpu p).dma = s.dma := rfl
@[simp] theorem State.setPpu_ppu (p : Ppu) : (s.setPpu p).ppu = p := rfl
@[simp] theorem State.setPpu_bootMapped (p : Ppu) : (s.setPpu p).bootMapped = s.bootMapped := rfl
@[simp] theorem State.setPpu_mem (p : Ppu) : (s.setPpu p).mem = s.mem := rfl
@[simp] theorem State.setPpu_env (p : Ppu) : (s.setPpu p).env = s.env := rfl

/-! ## setEnv -/

@[simp] theorem State.setEnv_regs (e : Env) : (s.setEnv e).regs = s.regs := rfl
@[simp] theorem State.setEnv_latch (e : Env) : (s.setEnv e).latch = s.latch := rfl
@[simp] theorem State.setEnv_cycles (e : Env) : (s.setEnv e).cycles = s.cycles := rfl
@[simp] theorem State.setEnv_ifReg (e : Env) : (s.setEnv e).ifReg = s.ifReg := rfl
@[simp] theorem State.setEnv_ieReg (e : Env) : (s.setEnv e).ieReg = s.ieReg := rfl
@[simp] theorem State.setEnv_timer (e : Env) : (s.setEnv e).timer = s.timer := rfl
@[simp] theorem State.setEnv_dma (e : Env) : (s.setEnv e).dma = s.dma := rfl
@[simp] theorem State.setEnv_ppu (e : Env) : (s.setEnv e).ppu = s.ppu := rfl
@[simp] theorem State.setEnv_bootMapped (e : Env) : (s.setEnv e).bootMapped = s.bootMapped := rfl
@[simp] theorem State.setEnv_mem (e : Env) : (s.setEnv e).mem = s.mem := rfl
@[simp] theorem State.setEnv_env (e : Env) : (s.setEnv e).env = e := rfl

/-! ## addCycles -/

@[simp] theorem State.addCycles_regs : (s.addCycles).regs = s.regs := rfl
@[simp] theorem State.addCycles_latch : (s.addCycles).latch = s.latch := rfl
@[simp] theorem State.addCycles_cycles : (s.addCycles).cycles = s.cycles + 4 := rfl
@[simp] theorem State.addCycles_ifReg : (s.addCycles).ifReg = s.ifReg := rfl
@[simp] theorem State.addCycles_ieReg : (s.addCycles).ieReg = s.ieReg := rfl
@[simp] theorem State.addCycles_timer : (s.addCycles).timer = s.timer := rfl
@[simp] theorem State.addCycles_dma : (s.addCycles).dma = s.dma := rfl
@[simp] theorem State.addCycles_ppu : (s.addCycles).ppu = s.ppu := rfl
@[simp] theorem State.addCycles_bootMapped : (s.addCycles).bootMapped = s.bootMapped := rfl
@[simp] theorem State.addCycles_mem : (s.addCycles).mem = s.mem := rfl
@[simp] theorem State.addCycles_env : (s.addCycles).env = s.env := rfl

/-! ## advancePc -/

@[simp] theorem State.advancePc_regs : (s.advancePc).regs = { s.regs with pc := s.regs.pc + 1 } := rfl
@[simp] theorem State.advancePc_latch : (s.advancePc).latch = s.latch := rfl
@[simp] theorem State.advancePc_cycles : (s.advancePc).cycles = s.cycles := rfl
@[simp] theorem State.advancePc_ifReg : (s.advancePc).ifReg = s.ifReg := rfl
@[simp] theorem State.advancePc_ieReg : (s.advancePc).ieReg = s.ieReg := rfl
@[simp] theorem State.advancePc_timer : (s.advancePc).timer = s.timer := rfl
@[simp] theorem State.advancePc_dma : (s.advancePc).dma = s.dma := rfl
@[simp] theorem State.advancePc_ppu : (s.advancePc).ppu = s.ppu := rfl
@[simp] theorem State.advancePc_bootMapped : (s.advancePc).bootMapped = s.bootMapped := rfl
@[simp] theorem State.advancePc_mem : (s.advancePc).mem = s.mem := rfl
@[simp] theorem State.advancePc_env : (s.advancePc).env = s.env := rfl

/-! ## ramWrite -/

@[simp] theorem ramWrite_regs (a : Nat) (v : Byte) : (ramWrite a v s).regs = s.regs := rfl
@[simp] theorem ramWrite_latch (a : Nat) (v : Byte) : (ramWrite a v s).latch = s.latch := rfl
@[simp] theorem ramWrite_cycles (a : Nat) (v : Byte) : (ramWrite a v s).cycles = s.cycles := rfl
@[simp] theorem ramWrite_ifReg (a : Nat) (v : Byte) : (ramWrite a v s).ifReg = s.ifReg := rfl
@[simp] theorem ramWrite_ieReg (a : Nat) (v : Byte) : (ramWrite a v s).ieReg = s.ieReg := rfl
@[simp] theorem ramWrite_timer (a : Nat) (v : Byte) : (ramWrite a v s).timer = s.timer := rfl
@[simp] theorem ramWrite_dma (a : Nat) (v : Byte) : (ramWrite a v s).dma = s.dma := rfl
@[simp] theorem ramWrite_ppu (a : Nat) (v : Byte) : (ramWrite a v s).ppu = s.ppu := rfl
@[simp] theorem ramWrite_bootMapped (a : Nat) (v : Byte) : (ramWrite a v s).bootMapped = s.bootMapped := rfl
@[simp] theorem ramWrite_mem (a : Nat) (v : Byte) : 
    (ramWrite a v s).mem = Memory.store s.mem s.env.launch a v := rfl
@[simp] theorem ramWrite_env (a : Nat) (v : Byte) : (ramWrite a v s).env = s.env := rfl

/-! ## takeDraw -/

@[simp] theorem takeDraw_regs : (takeDraw s).regs = s.regs := rfl
@[simp] theorem takeDraw_latch : (takeDraw s).latch = s.latch := rfl
@[simp] theorem takeDraw_cycles : (takeDraw s).cycles = s.cycles := rfl
@[simp] theorem takeDraw_ifReg : (takeDraw s).ifReg = s.ifReg := rfl
@[simp] theorem takeDraw_ieReg : (takeDraw s).ieReg = s.ieReg := rfl
@[simp] theorem takeDraw_timer : (takeDraw s).timer = s.timer := rfl
@[simp] theorem takeDraw_dma : (takeDraw s).dma = s.dma := rfl
@[simp] theorem takeDraw_ppu : (takeDraw s).ppu = s.ppu := rfl
@[simp] theorem takeDraw_bootMapped : (takeDraw s).bootMapped = s.bootMapped := rfl
@[simp] theorem takeDraw_mem : (takeDraw s).mem = s.mem := rfl
@[simp] theorem takeDraw_env : (takeDraw s).env = { s.env with draws := s.env.draws + 1 } := rfl

/-! ## requestInterrupt -/

@[simp] theorem requestInterrupt_regs (n : IntLine) : (requestInterrupt n s).regs = s.regs := rfl
@[simp] theorem requestInterrupt_latch (n : IntLine) : (requestInterrupt n s).latch = s.latch := rfl
@[simp] theorem requestInterrupt_cycles (n : IntLine) : (requestInterrupt n s).cycles = s.cycles := rfl
@[simp] theorem requestInterrupt_ifReg (n : IntLine) : (requestInterrupt n s).ifReg = s.ifReg ||| n.mask := rfl
@[simp] theorem requestInterrupt_ieReg (n : IntLine) : (requestInterrupt n s).ieReg = s.ieReg := rfl
@[simp] theorem requestInterrupt_timer (n : IntLine) : (requestInterrupt n s).timer = s.timer := rfl
@[simp] theorem requestInterrupt_dma (n : IntLine) : (requestInterrupt n s).dma = s.dma := rfl
@[simp] theorem requestInterrupt_ppu (n : IntLine) : (requestInterrupt n s).ppu = s.ppu := rfl
@[simp] theorem requestInterrupt_bootMapped (n : IntLine) : (requestInterrupt n s).bootMapped = s.bootMapped := rfl
@[simp] theorem requestInterrupt_mem (n : IntLine) : (requestInterrupt n s).mem = s.mem := rfl
@[simp] theorem requestInterrupt_env (n : IntLine) : (requestInterrupt n s).env = s.env := rfl

/-! ## Registers -/

variable (r : Regs)

@[simp] theorem Regs.set8_pc (i : Reg8) (v : Byte) : (r.set8 i v).pc = r.pc := by cases i <;> rfl
@[simp] theorem Regs.set8_sp (i : Reg8) (v : Byte) : (r.set8 i v).sp = r.sp := by cases i <;> rfl
@[simp] theorem Regs.set8_f (i : Reg8) (v : Byte) : (r.set8 i v).f = r.f := by cases i <;> rfl
@[simp] theorem Regs.set16_pc (i : Reg16) (v : Word) : (r.set16 i v).pc = r.pc := by cases i <;> rfl
@[simp] theorem Regs.set16_f (i : Reg16) (v : Word) : (r.set16 i v).f = r.f := by cases i <;> rfl
@[simp] theorem Regs.set16_a (i : Reg16) (v : Word) : (r.set16 i v).a = r.a := by cases i <;> rfl
@[simp] theorem Regs.setStack_pc (i : StackReg) (v : Word) : (r.setStack i v).pc = r.pc := by cases i <;> rfl
@[simp] theorem Regs.setStack_sp (i : StackReg) (v : Word) : (r.setStack i v).sp = r.sp := by cases i <;> rfl

theorem Regs.get8_set8 (i : Reg8) (v : Byte) : (r.set8 i v).get8 i = v := by cases i <;> rfl

theorem Regs.get8_set8_ne {i j : Reg8} (h : j ≠ i) (v : Byte) : (r.set8 i v).get8 j = r.get8 j := by
  cases i <;> cases j <;> first | rfl | exact absurd rfl h

/-! ## Words and bytes -/

@[simp] theorem wordOf_hiByte_loByte (w : Word) : wordOf (hiByte w) (loByte w) = w := by
  apply BitVec.eq_of_getLsbD_eq
  intro i hi
  simp only [wordOf, hiByte, loByte, BitVec.getLsbD_append, BitVec.getLsbD_extractLsb']
  by_cases h : i < 8
  · simp [h]
  · simp [h, show i - 8 < 8 by omega, show 8 + (i - 8) = i by omega]

@[simp] theorem hiByte_wordOf (hi lo : Byte) : hiByte (wordOf hi lo) = hi := by
  simp only [wordOf, hiByte]
  ext i h
  simp only [BitVec.getElem_extractLsb', BitVec.getLsbD_append]
  rw [if_neg (by omega)]
  simp [BitVec.getLsbD_eq_getElem h, show 8 + i - 8 = i by omega]

@[simp] theorem loByte_wordOf (hi lo : Byte) : loByte (wordOf hi lo) = lo := by
  simp only [wordOf, loByte]
  ext i h
  simp only [BitVec.getElem_extractLsb', BitVec.getLsbD_append]
  rw [if_pos (by omega)]
  simp [BitVec.getLsbD_eq_getElem h]

end Sys2Proof.Machine
end

