-- ==== Sys2Proof/Laws/Memory.lean ====
section
/-! SUPPORT. Memories and framebuffers as canonical lists: read after write, and that every operation keeps the canonical
form. -/

namespace Sys2Proof.Machine

/-! ## Memories -/

theorem Memory.read_write_same (m : Memory) (a : Nat) (v : Byte) : (m.write a v).read a = some v := by
  induction m with
  | nil => simp [Memory.write, Memory.read]
  | cons c rest ih =>
    obtain ⟨k, w⟩ := c
    simp only [Memory.write]
    split
    · simp [Memory.read]
    · split
      · simp [Memory.read]
      · simp only [Memory.read]
        rw [if_neg (by omega)]
        exact ih

theorem Memory.read_write_other (m : Memory) {a b : Nat} (h : b ≠ a) (v : Byte) :
    (m.write a v).read b = m.read b := by
  induction m with
  | nil => simp [Memory.write, Memory.read, Ne.symm h]
  | cons c rest ih =>
    obtain ⟨k, w⟩ := c
    simp only [Memory.write]
    split
    · simp [Memory.read, Ne.symm h]
    · split
      · subst k; simp [Memory.read, Ne.symm h]
      · simp only [Memory.read]; rw [ih]

theorem Memory.mem_write {m : Memory} {a : Nat} {v : Byte} {c : Host.Cell} (h : c ∈ m.write a v) :
    c ∈ m ∨ c = (a, v) := by
  induction m with
  | nil => simpa [Memory.write] using h
  | cons d rest ih =>
    obtain ⟨k, w⟩ := d
    simp only [Memory.write] at h
    split at h
    · simpa [or_comm] using h
    · split at h
      · rcases List.mem_cons.mp h with h | h
        · exact .inr h
        · exact .inl (List.mem_cons_of_mem _ h)
      · rcases List.mem_cons.mp h with h | h
        · exact .inl (h ▸ List.mem_cons_self)
        · exact (ih h).imp (List.mem_cons_of_mem _) id

/-- A write keeps the canonical form. -/
theorem Memory.write_wf {m : Memory} (h : m.wf) (a : Nat) (v : Byte) : (m.write a v).wf := by
  induction m with
  | nil => simp [Memory.write, Memory.wf]
  | cons c rest ih =>
    obtain ⟨k, w⟩ := c
    obtain ⟨hk, hr⟩ := List.pairwise_cons.mp h
    simp only [Memory.write]
    split
    · refine List.pairwise_cons.mpr ⟨fun d hd => ?_, h⟩
      rcases List.mem_cons.mp hd with rfl | hd
      · assumption
      · exact Nat.lt_trans ‹a < k› (hk d hd)
    · split
      · subst k; exact List.pairwise_cons.mpr ⟨hk, hr⟩
      · refine List.pairwise_cons.mpr ⟨fun d hd => ?_, ih hr⟩
        rcases Memory.mem_write hd with hd | rfl
        · exact hk d hd
        · show k < a; omega

theorem Memory.filter_wf {m : Memory} (h : m.wf) (p : Host.Cell → Bool) : Memory.wf (m.filter p) :=
  List.Pairwise.sublist List.filter_sublist h

theorem Memory.mem_erase {m : Memory} {a : Nat} {c : Host.Cell} (h : c ∈ m.erase a) : c ∈ m := by
  induction m with
  | nil => exact h
  | cons d rest ih =>
    obtain ⟨k, w⟩ := d
    simp only [Memory.erase] at h
    split at h
    · exact List.mem_cons_of_mem _ (ih h)
    · rcases List.mem_cons.mp h with h | h
      · exact h ▸ List.mem_cons_self
      · exact List.mem_cons_of_mem _ (ih h)

theorem Memory.erase_wf {m : Memory} (h : m.wf) (a : Nat) : (m.erase a).wf := by
  induction m with
  | nil => exact h
  | cons d rest ih =>
    obtain ⟨k, w⟩ := d
    obtain ⟨hk, hr⟩ := List.pairwise_cons.mp h
    simp only [Memory.erase]
    split
    · exact ih hr
    · exact List.pairwise_cons.mpr ⟨fun c hc => hk c (Memory.mem_erase hc), ih hr⟩

theorem Memory.read_erase_same (m : Memory) (a : Nat) : (m.erase a).read a = none := by
  induction m with
  | nil => rfl
  | cons c rest ih =>
    obtain ⟨k, w⟩ := c
    simp only [Memory.erase]
    split
    · exact ih
    · simp [Memory.read, *]

theorem Memory.read_erase_other (m : Memory) {a b : Nat} (h : b ≠ a) : (m.erase a).read b = m.read b := by
  induction m with
  | nil => rfl
  | cons c rest ih =>
    obtain ⟨k, w⟩ := c
    simp only [Memory.erase]
    split
    · subst k; rw [ih]; simp [Memory.read, Ne.symm h]
    · simp only [Memory.read]; rw [ih]

theorem Memory.mem_store {m : Memory} {l : BootMode} {a : Nat} {v : Byte} {c : Host.Cell} (h : c ∈ m.store l a v) :
    c ∈ m ∨ c = (a, v) := by
  unfold Memory.store at h
  split at h
  · exact Memory.mem_write h
  · split at h
    · exact .inl (Memory.mem_erase h)
    · exact Memory.mem_write h

theorem Memory.read_store_other (m : Memory) (l : BootMode) {a b : Nat} (h : b ≠ a) (v : Byte) :
    (m.store l a v).read b = m.read b := by
  unfold Memory.store
  split
  · exact Memory.read_write_other m h v
  · split
    · exact Memory.read_erase_other m h
    · exact Memory.read_write_other m h v

/-- A store keeps the addresses rising. -/
theorem Memory.store_wf {m : Memory} (h : m.wf) (l : BootMode) (a : Nat) (v : Byte) : (m.store l a v).wf := by
  unfold Memory.store
  split
  · exact Memory.write_wf h a v
  · split
    · exact Memory.erase_wf h a
    · exact Memory.write_wf h a v

/-- After a BootRom reset a store lists no zero. -/
theorem Memory.store_zero {m : Memory} {l : BootMode} (h : l = .bootRom → ∀ c ∈ m, c.2 ≠ 0) (a : Nat) (v : Byte) :
    l = .bootRom → ∀ c ∈ m.store l a v, c.2 ≠ 0 := by
  rintro rfl c hc
  have h' := h rfl
  simp only [Memory.store] at hc
  split at hc
  · exact h' c (Memory.mem_erase hc)
  · rcases Memory.mem_write hc with hc | rfl
    · exact h' c hc
    · assumption

/-! ## Framebuffers -/

theorem FrameBuffer.pixel_erase_same (fb : FrameBuffer) (i : Nat) : (fb.erase i).pixel i = 0 := by
  induction fb with
  | nil => rfl
  | cons c rest ih =>
    obtain ⟨k, w⟩ := c
    simp only [FrameBuffer.erase]
    split
    · exact ih
    · simp [FrameBuffer.pixel, *]

theorem FrameBuffer.pixel_erase_other (fb : FrameBuffer) {i j : Nat} (h : j ≠ i) :
    (fb.erase i).pixel j = fb.pixel j := by
  induction fb with
  | nil => rfl
  | cons c rest ih =>
    obtain ⟨k, w⟩ := c
    simp only [FrameBuffer.erase]
    split
    · subst k; rw [ih]; simp [FrameBuffer.pixel, Ne.symm h]
    · simp only [FrameBuffer.pixel]; rw [ih]

theorem FrameBuffer.pixel_insert_same (fb : FrameBuffer) (i : Nat) (v : Shade) : (fb.insert i v).pixel i = v := by
  induction fb with
  | nil => simp [FrameBuffer.insert, FrameBuffer.pixel]
  | cons c rest ih =>
    obtain ⟨k, w⟩ := c
    simp only [FrameBuffer.insert]
    split
    · simp [FrameBuffer.pixel]
    · split
      · simp [FrameBuffer.pixel]
      · simp only [FrameBuffer.pixel]
        rw [if_neg (by omega)]
        exact ih

theorem FrameBuffer.pixel_insert_other (fb : FrameBuffer) {i j : Nat} (h : j ≠ i) (v : Shade) :
    (fb.insert i v).pixel j = fb.pixel j := by
  induction fb with
  | nil => simp [FrameBuffer.insert, FrameBuffer.pixel, Ne.symm h]
  | cons c rest ih =>
    obtain ⟨k, w⟩ := c
    simp only [FrameBuffer.insert]
    split
    · simp [FrameBuffer.pixel, Ne.symm h]
    · split
      · subst k; simp [FrameBuffer.pixel, Ne.symm h]
      · simp only [FrameBuffer.pixel]; rw [ih]

theorem FrameBuffer.mem_erase {fb : FrameBuffer} {i : Nat} {c : Nat × Shade} (h : c ∈ fb.erase i) : c ∈ fb := by
  induction fb with
  | nil => exact h
  | cons d rest ih =>
    obtain ⟨k, w⟩ := d
    simp only [FrameBuffer.erase] at h
    split at h
    · exact List.mem_cons_of_mem _ (ih h)
    · rcases List.mem_cons.mp h with h | h
      · exact h ▸ List.mem_cons_self
      · exact List.mem_cons_of_mem _ (ih h)

theorem FrameBuffer.mem_insert {fb : FrameBuffer} {i : Nat} {v : Shade} {c : Nat × Shade} (h : c ∈ fb.insert i v) :
    c ∈ fb ∨ c = (i, v) := by
  induction fb with
  | nil => simpa [FrameBuffer.insert] using h
  | cons d rest ih =>
    obtain ⟨k, w⟩ := d
    simp only [FrameBuffer.insert] at h
    split at h
    · simpa [or_comm] using h
    · split at h
      · rcases List.mem_cons.mp h with h | h
        · exact .inr h
        · exact .inl (List.mem_cons_of_mem _ h)
      · rcases List.mem_cons.mp h with h | h
        · exact .inl (h ▸ List.mem_cons_self)
        · exact (ih h).imp (List.mem_cons_of_mem _) id

theorem FrameBuffer.mem_write {fb : FrameBuffer} {i : Nat} {v : Shade} {c : Nat × Shade} (h : c ∈ fb.write i v) :
    c ∈ fb ∨ c = (i, v) := by
  unfold FrameBuffer.write at h
  split at h
  · exact .inl (FrameBuffer.mem_erase h)
  · exact FrameBuffer.mem_insert h

theorem FrameBuffer.pixel_write_same (fb : FrameBuffer) (i : Nat) (v : Shade) : (fb.write i v).pixel i = v := by
  unfold FrameBuffer.write
  split
  · subst v; exact FrameBuffer.pixel_erase_same fb i
  · exact FrameBuffer.pixel_insert_same fb i v

theorem FrameBuffer.pixel_write_other (fb : FrameBuffer) {i j : Nat} (h : j ≠ i) (v : Shade) :
    (fb.write i v).pixel j = fb.pixel j := by
  unfold FrameBuffer.write
  split
  · exact FrameBuffer.pixel_erase_other fb h
  · exact FrameBuffer.pixel_insert_other fb h v

theorem FrameBuffer.erase_wf {fb : FrameBuffer} (h : fb.wf) (i : Nat) : (fb.erase i).wf := by
  refine ⟨?_, fun c hc => h.2 c (FrameBuffer.mem_erase hc)⟩
  have h1 := h.1
  clear h
  induction fb with
  | nil => exact h1
  | cons d rest ih =>
    obtain ⟨k, w⟩ := d
    obtain ⟨hk, hr⟩ := List.pairwise_cons.mp h1
    simp only [FrameBuffer.erase]
    split
    · exact ih hr
    · exact List.pairwise_cons.mpr ⟨fun c hc => hk c (FrameBuffer.mem_erase hc), ih hr⟩

theorem FrameBuffer.insert_wf {fb : FrameBuffer} (h : fb.wf) (i : Nat) {v : Shade} (hv : v ≠ 0) :
    (fb.insert i v).wf := by
  constructor
  · have h1 := h.1
    clear h
    induction fb with
    | nil => simp [FrameBuffer.insert]
    | cons c rest ih =>
      obtain ⟨k, w⟩ := c
      obtain ⟨hk, hr⟩ := List.pairwise_cons.mp h1
      simp only [FrameBuffer.insert]
      split
      · refine List.pairwise_cons.mpr ⟨fun d hd => ?_, h1⟩
        rcases List.mem_cons.mp hd with rfl | hd
        · assumption
        · exact Nat.lt_trans ‹i < k› (hk d hd)
      · split
        · subst k; exact List.pairwise_cons.mpr ⟨hk, hr⟩
        · refine List.pairwise_cons.mpr ⟨fun d hd => ?_, ih hr⟩
          rcases FrameBuffer.mem_insert hd with hd | rfl
          · exact hk d hd
          · show k < i; omega
  · intro c hc
    rcases FrameBuffer.mem_insert hc with hc | rfl
    · exact h.2 c hc
    · exact hv

/-- A write keeps the canonical form. -/
theorem FrameBuffer.write_wf {fb : FrameBuffer} (h : fb.wf) (i : Nat) (v : Shade) : (fb.write i v).wf := by
  unfold FrameBuffer.write
  split
  · exact FrameBuffer.erase_wf h i
  · exact FrameBuffer.insert_wf h i ‹_›

/-! ## The block's storage -/

theorem ramRead_congr {s t : State} (hm : t.mem = s.mem) (hl : t.env.launch = s.env.launch) (a : Nat) :
    ramRead t a = ramRead s a := by simp only [ramRead, unwrittenByte, hm, hl]

theorem ramRead_ramWrite_same (a : Nat) (v : Byte) (s : State) : ramRead (ramWrite a v s) a = v := by
  unfold ramRead unwrittenByte
  cases e : s.env.launch
  · simp [Memory.store, e, Memory.read_write_same]
  · by_cases hv : v = 0
    · simp [Memory.store, e, hv, Memory.read_erase_same]
    · simp only [ramWrite, Memory.store, e, if_neg hv, Memory.read_write_same, Option.getD_some]

theorem ramRead_ramWrite_other {a b : Nat} (h : b ≠ a) (v : Byte) (s : State) :
    ramRead (ramWrite a v s) b = ramRead s b := by
  simp [ramRead, unwrittenByte, Memory.read_store_other _ _ h]

end Sys2Proof.Machine
end

