-- ==== Sys2Proof/Laws/Frames.lean ====
section
/-! SUPPORT. What one T-cycle, one M-cycle and one CPU-side access leave unchanged, agent by agent. Later proofs cite
these and unfold no agent. -/

namespace Sys2Proof.Machine

/-! ## Composing frames -/

theorem MemoryFrame.refl (s : State) : MemoryFrame [] s s := by
  constructor <;> simp

theorem MemoryFrame.trans {l₁ l₂ : List Word} {s t u : State} (h₁ : MemoryFrame l₁ s t) (h₂ : MemoryFrame l₂ t u) :
    MemoryFrame (l₁ ++ l₂) s u := by
  constructor
  · intro x hx ha
    rw [h₂.storage x hx fun a h => ha a (List.mem_append_right _ h),
      h₁.storage x hx fun a h => ha a (List.mem_append_left _ h)]
  · intro hd hn x ha
    simp only [List.mem_append, not_or] at hn
    rw [h₂.quiet (h₁.idle hd hn.1) hn.2 x fun a h => ha a (List.mem_append_right _ h),
      h₁.quiet hd hn.1 x fun a h => ha a (List.mem_append_left _ h)]
  · intro hd hn
    simp only [List.mem_append, not_or] at hn
    exact h₂.idle (h₁.idle hd hn.1) hn.2
  · intro hn; simp only [List.mem_append, not_or] at hn; rw [h₂.ie hn.2, h₁.ie hn.1]
  · intro hn; simp only [List.mem_append, not_or] at hn; rw [h₂.overlay hn.2, h₁.overlay hn.1]
  · intro ha
    rw [h₂.cart fun a h => ha a (List.mem_append_right _ h), h₁.cart fun a h => ha a (List.mem_append_left _ h)]
  · exact ⟨h₂.image.1.trans h₁.image.1, h₂.image.2.trans h₁.image.2⟩
  · intro hn
    simp only [List.mem_append, not_or] at hn
    have e₁ := h₁.requests hn.1
    have e₂ := h₂.requests hn.2
    rw [← e₁, BitVec.and_assoc, e₂]
  all_goals
    intro hn
    simp only [List.mem_append, not_or] at hn
  · rw [h₂.tma hn.2, h₁.tma hn.1]
  · rw [h₂.tac hn.2, h₁.tac hn.1]
  · rw [h₂.dma hn.2, h₁.dma hn.1]
  · rw [h₂.lcdc hn.2, h₁.lcdc hn.1]
  · rw [h₂.stat hn.2, h₁.stat hn.1]
  · rw [h₂.scy hn.2, h₁.scy hn.1]
  · rw [h₂.scx hn.2, h₁.scx hn.1]
  · rw [h₂.lyc hn.2, h₁.lyc hn.1]
  · rw [h₂.bgp hn.2, h₁.bgp hn.1]
  · rw [h₂.obp0 hn.2, h₁.obp0 hn.1]
  · rw [h₂.obp1 hn.2, h₁.obp1 hn.1]
  · rw [h₂.wy hn.2, h₁.wy hn.1]
  · rw [h₂.wx hn.2, h₁.wx hn.1]

theorem LatchFrame.refl (s : State) : LatchFrame s s := ⟨rfl, id⟩

theorem LatchFrame.trans {s t u : State} (h₁ : LatchFrame s t) (h₂ : LatchFrame t u) : LatchFrame s u :=
  ⟨by rw [h₂.1, h₁.1], fun h => h₁.2 (h₂.2 h)⟩

theorem LatchFrame.of_eq {s t : State} (h : t.latch = s.latch) : LatchFrame s t :=
  ⟨by rw [h], fun h' => h ▸ h'⟩

/-- A state that differs in the CPU's registers, latches and cycle counter only is within the memory frame. -/
theorem MemoryFrame.of_cpu {s t : State} (h : t = { s with regs := t.regs, latch := t.latch, cycles := t.cycles }) :
    MemoryFrame [] s t := by
  rw [h]; constructor <;> simp [ramRead, unwrittenByte]

@[simp] theorem and_or_self5 (a b : BitVec 5) : a &&& (a ||| b) = a := by
  ext i h; simp; intro h1; exact .inl h1

/-! ## The PPU (R388) -/

/-- "It writes only its own state, the framebuffers, STAT's mode and coincidence fields, LY, and IF bits 0 and 1" (R388):
the PPU's registers stay as they are. -/
structure PpuOnly (s t : State) : Prop where
  regs : t.regs = s.regs
  latch : t.latch = s.latch
  cycles : t.cycles = s.cycles
  ieReg : t.ieReg = s.ieReg
  timer : t.timer = s.timer
  dma : t.dma = s.dma
  bootMapped : t.bootMapped = s.bootMapped
  mem : t.mem = s.mem
  env : t.env = { s.env with outputs := t.env.outputs }
  requests : s.ifReg &&& t.ifReg = s.ifReg
  lcdc : t.ppu.lcdc = s.ppu.lcdc
  statSel : t.ppu.statSel = s.ppu.statSel
  scy : t.ppu.scy = s.ppu.scy
  scx : t.ppu.scx = s.ppu.scx
  lyc : t.ppu.lyc = s.ppu.lyc
  bgp : t.ppu.bgp = s.ppu.bgp
  obp0 : t.ppu.obp0 = s.ppu.obp0
  obp1 : t.ppu.obp1 = s.ppu.obp1
  wy : t.ppu.wy = s.ppu.wy
  wx : t.ppu.wx = s.ppu.wx

theorem PpuOnly.refl (s : State) : PpuOnly s s := by constructor <;> simp

theorem PpuOnly.trans {s t u : State} (h₁ : PpuOnly s t) (h₂ : PpuOnly t u) : PpuOnly s u := by
  constructor
  · rw [h₂.regs, h₁.regs]
  · rw [h₂.latch, h₁.latch]
  · rw [h₂.cycles, h₁.cycles]
  · rw [h₂.ieReg, h₁.ieReg]
  · rw [h₂.timer, h₁.timer]
  · rw [h₂.dma, h₁.dma]
  · rw [h₂.bootMapped, h₁.bootMapped]
  · rw [h₂.mem, h₁.mem]
  · rw [h₂.env, h₁.env]
  · rw [← h₁.requests, BitVec.and_assoc, h₂.requests]
  · rw [h₂.lcdc, h₁.lcdc]
  · rw [h₂.statSel, h₁.statSel]
  · rw [h₂.scy, h₁.scy]
  · rw [h₂.scx, h₁.scx]
  · rw [h₂.lyc, h₁.lyc]
  · rw [h₂.bgp, h₁.bgp]
  · rw [h₂.obp0, h₁.obp0]
  · rw [h₂.obp1, h₁.obp1]
  · rw [h₂.wy, h₁.wy]
  · rw [h₂.wx, h₁.wx]

theorem enterMode_only (m : PpuMode) (s : State) : PpuOnly s (enterMode m s) := by
  unfold enterMode; dsimp only; split <;> constructor <;> simp

theorem lycUpdate_only (s : State) : PpuOnly s (lycUpdate s) := by
  unfold lycUpdate; dsimp only; split <;> constructor <;> simp

theorem oamScanDot_only (s : State) : PpuOnly s (oamScanDot s) := by
  unfold oamScanDot wyCheck scanEntry; dsimp only; split <;> split <;> constructor <;> simp

theorem fetcherDot_only (s : State) : PpuOnly s (fetcherDot s) := by
  unfold fetcherDot fetcherAction; dsimp only
  split
  case isTrue =>
    split
    case h_4 => split <;> constructor <;> simp
    all_goals constructor <;> simp
  case isFalse => constructor <;> simp

theorem windowCheck_only (s : State) : PpuOnly s (s.setPpu s.ppu.windowCheck) := by
  unfold Ppu.windowCheck; split <;> constructor <;> simp

theorem spriteMix_only (sp : Sprite) (s : State) : PpuOnly s (spriteMix sp s) := by
  unfold spriteMix; constructor <;> simp

theorem spriteFetchDot_only (s : State) : PpuOnly s (spriteFetchDot s) := by
  have h : PpuOnly s (s.setPpu { s.ppu with spriteFetchLeft := s.ppu.spriteFetchLeft - 1 }) := by
    constructor <;> simp
  unfold spriteFetchDot spriteFetchComplete; dsimp only
  split
  · split
    · exact h.trans (spriteMix_only _ _)
    · exact h
  · exact h

theorem lineOut_only (s : State) : PpuOnly s (lineOut s) := by
  unfold lineOut; dsimp only
  split
  · exact (enterMode_only .hblank s).trans (by constructor <;> simp)
  · exact enterMode_only _ _

theorem shiftOut_only (b : Colour) (rest : List Colour) (s : State) : PpuOnly s (shiftOut b rest s) := by
  have h : PpuOnly s (s.setPpu (Ppu.output { s.ppu with bgFifo := rest } b)) := by constructor <;> simp [Ppu.output]
  unfold shiftOut; dsimp only
  split
  · constructor <;> simp
  · split
    · exact h.trans (lineOut_only _)
    · exact h

theorem shiftOrFetch_only (s : State) : PpuOnly s (shiftOrFetch s) := by
  unfold shiftOrFetch
  split
  · constructor <;> simp [Ppu.startSpriteFetch]
  · split
    · exact PpuOnly.refl s
    · exact shiftOut_only _ _ _

theorem mode3Dot_only (s : State) : PpuOnly s (mode3Dot s) := by
  unfold mode3Dot
  split
  · exact spriteFetchDot_only s
  · exact ((windowCheck_only s).trans (fetcherDot_only _)).trans (shiftOrFetch_only _)

theorem startLine_only (s : State) : PpuOnly s (startLine s) :=
  PpuOnly.trans (by constructor <;> simp) (enterMode_only _ _)

theorem startFrame_only (s : State) : PpuOnly s (startFrame s) :=
  PpuOnly.trans (by constructor <;> simp) (startLine_only _)

theorem startVblank_only (s : State) : PpuOnly s (startVblank s) := by
  refine (enterMode_only .vblank s).trans ?_
  unfold startVblank framePresent present; constructor <;> simp

theorem endLine_only (s : State) : PpuOnly s (endLine s) := by
  have h : PpuOnly s (s.setPpu { s.ppu with dot := 0, ly := s.ppu.ly + 1 }) := by constructor <;> simp
  unfold endLine; dsimp only
  split
  · exact h.trans (startVblank_only _)
  · split
    · exact h.trans (startFrame_only _)
    · split
      · exact h.trans (startLine_only _)
      · exact h

theorem modeDot_only (s : State) : PpuOnly s (modeDot s) := by
  unfold modeDot
  split
  · exact oamScanDot_only s
  · exact mode3Dot_only s
  · exact PpuOnly.refl s
  · exact PpuOnly.refl s

theorem advanceDot_only (s : State) : PpuOnly s (advanceDot s) := by
  have h₁ : PpuOnly s (s.setPpu { s.ppu with dot := s.ppu.dot + 1 }) := by constructor <;> simp
  have h₂ : ∀ u : State, PpuOnly u (u.setPpu u.ppu.lineStart) := by
    intro u; constructor <;> simp [Ppu.lineStart]
  unfold advanceDot; dsimp only
  split
  · split
    · exact ((h₁.trans (enterMode_only _ _)).trans (h₂ _)).trans (endLine_only _)
    · exact (h₁.trans (enterMode_only _ _)).trans (h₂ _)
  · split
    · exact h₁.trans (endLine_only _)
    · exact h₁

/-- A dot changes what the PPU owns and nothing else (R388). -/
theorem ppuT_only (s : State) : PpuOnly s (ppuT s) := by
  unfold ppuT
  split
  · exact ((modeDot_only s).trans (advanceDot_only _)).trans (lycUpdate_only _)
  · exact PpuOnly.refl s

theorem PpuOnly.frame {s t : State} (h : PpuOnly s t) : MemoryFrame [] s t := by
  have hl : t.env.launch = s.env.launch := by rw [h.env]
  constructor
  · intro x _ _; exact ramRead_congr h.mem hl x
  · intro _ _ x _; exact ramRead_congr h.mem hl x
  · intro hd _; rw [h.dma]; exact hd
  · intro _; exact h.ieReg
  · intro _; exact h.bootMapped
  · intro _; rw [h.env]
  · exact ⟨by rw [h.env], hl⟩
  · intro _; exact h.requests
  · intro _; rw [h.timer]
  · intro _; rw [h.timer]
  · intro _; rw [h.dma]
  · intro _; exact h.lcdc
  · intro _; exact h.statSel
  · intro _; exact h.scy
  · intro _; exact h.scx
  · intro _; exact h.lyc
  · intro _; exact h.bgp
  · intro _; exact h.obp0
  · intro _; exact h.obp1
  · intro _; exact h.wy
  · intro _; exact h.wx

/-! ## The timer (R330) -/

theorem Timer.edgeCheck_keeps (t : Timer) : t.edgeCheck.tma = t.tma ∧ t.edgeCheck.tac = t.tac ∧
    t.edgeCheck.sysCounter = t.sysCounter := by
  unfold Timer.edgeCheck Timer.increment; dsimp only
  split
  · split <;> simp
  · simp

theorem Timer.tick_keeps (t : Timer) : t.window.count.tma = t.tma ∧ t.window.count.tac = t.tac := by
  have h : t.window.tma = t.tma ∧ t.window.tac = t.tac := by unfold Timer.window; split <;> simp
  have e := Timer.edgeCheck_keeps { t.window with sysCounter := t.window.sysCounter + 1 }
  exact ⟨e.1.trans h.1, e.2.1.trans h.2⟩

/-- "It raises no other line and writes no other state" (R330). -/
theorem timerT_keeps (s : State) :
    timerT s = { s with timer := s.timer.window.count, ifReg := (timerT s).ifReg } ∧
      s.ifReg &&& (timerT s).ifReg = s.ifReg := by
  unfold timerT; dsimp only
  split
  · exact ⟨rfl, by simp⟩
  · exact ⟨rfl, by simp⟩

theorem timerT_frame (s : State) : MemoryFrame [] s (timerT s) := by
  obtain ⟨h, hr⟩ := timerT_keeps s
  have e := Timer.tick_keeps s.timer
  rw [h]
  constructor <;> simp [ramRead, unwrittenByte, e, hr]

@[simp] theorem timerT_regs (s : State) : (timerT s).regs = s.regs := by rw [(timerT_keeps s).1]
@[simp] theorem timerT_latch (s : State) : (timerT s).latch = s.latch := by rw [(timerT_keeps s).1]
@[simp] theorem timerT_cycles (s : State) : (timerT s).cycles = s.cycles := by rw [(timerT_keeps s).1]
@[simp] theorem timerT_timer (s : State) : (timerT s).timer = s.timer.window.count := by rw [(timerT_keeps s).1]
@[simp] theorem timerT_dma (s : State) : (timerT s).dma = s.dma := by rw [(timerT_keeps s).1]
@[simp] theorem timerT_ppu (s : State) : (timerT s).ppu = s.ppu := by rw [(timerT_keeps s).1]
@[simp] theorem timerT_mem (s : State) : (timerT s).mem = s.mem := by rw [(timerT_keeps s).1]
@[simp] theorem timerT_env (s : State) : (timerT s).env = s.env := by rw [(timerT_keeps s).1]

/-! ## The DMA engine -/

/-- A read leaves all but the draw counter. -/
theorem afterBusRead_keeps (a : Word) (s : State) :
    afterBusRead a s = s ∨ afterBusRead a s = takeDraw s := by
  unfold afterBusRead; split
  · exact .inr rfl
  · exact .inl rfl

theorem afterDmaRead_keeps (a : Word) (s : State) :
    afterDmaRead a s = s ∨ afterDmaRead a s = takeDraw s := by
  unfold afterDmaRead; split
  · exact .inr rfl
  · exact afterBusRead_keeps a s

theorem takeDraw_frame (s : State) : MemoryFrame [] s (takeDraw s) := by
  constructor <;> simp [ramRead, unwrittenByte]

/-- What one T-cycle of the DMA engine keeps: all but its own counters, the draw counter and one OAM byte. -/
structure DmaOnly (s t : State) : Prop where
  regs : t.regs = s.regs
  latch : t.latch = s.latch
  cycles : t.cycles = s.cycles
  ifReg : t.ifReg = s.ifReg
  ieReg : t.ieReg = s.ieReg
  timer : t.timer = s.timer
  ppu : t.ppu = s.ppu
  bootMapped : t.bootMapped = s.bootMapped
  env : t.env = { s.env with draws := t.env.draws }
  reg : t.dma.reg = s.dma.reg
  src : t.dma.src = s.dma.src

theorem dmaCopy_eq (s : State) : dmaCopy s =
    (ramWrite (0xFE00 + s.dma.index) (dmaRead s s.dma.source) (afterDmaRead s.dma.source s)).setDma
      { s.dma with sub := 0, index := s.dma.index + 1, active := decide (s.dma.index + 1 ≠ 160) } := rfl

theorem dmaCopy_only (s : State) : DmaOnly s (dmaCopy s) := by
  rw [dmaCopy_eq]
  rcases afterDmaRead_keeps s.dma.source s with h | h <;> rw [h] <;> constructor <;> simp

theorem dmaT_only (s : State) : DmaOnly s (dmaT s) := by
  unfold dmaT
  split
  · split
    · exact dmaCopy_only s
    · constructor <;> simp
  · constructor <;> simp

theorem dmaT_idle {s : State} (h : s.dma.active = false) : dmaT s = s := by simp [dmaT, h]

/-- The engine writes OAM only, at its index. -/
theorem dmaT_ramRead {s : State} (hs : s.dma.Inv) {x : Nat} (hx : ¬ (0xFE00 ≤ x ∧ x ≤ 0xFE9F)) :
    ramRead (dmaT s) x = ramRead s x := by
  by_cases ha : s.dma.active = true
  · have hi := hs.running ha
    have hl : (dmaT s).env.launch = s.env.launch := by rw [(dmaT_only s).env]
    unfold dmaT at hl ⊢
    rw [if_pos ha] at hl ⊢
    split
    · rename_i hsub
      rw [if_pos hsub] at hl
      have hne : x ≠ 0xFE00 + s.dma.index := by omega
      rw [dmaCopy_eq]
      rcases afterDmaRead_keeps s.dma.source s with h | h <;> rw [h] <;>
        simp [ramRead, unwrittenByte, Memory.read_store_other _ _ hne]
    · simp [ramRead, unwrittenByte]
  · rw [dmaT_idle (by simpa using ha)]

theorem dmaT_frame {s : State} (hs : s.dma.Inv) : MemoryFrame [] s (dmaT s) := by
  have h := dmaT_only s
  constructor
  · intro x hx _; exact dmaT_ramRead hs hx
  · intro hd _ x _; rw [dmaT_idle hd]
  · intro hd _; rw [dmaT_idle hd]; exact hd
  · intro _; exact h.ieReg
  · intro _; exact h.bootMapped
  · intro _; rw [h.env]
  · exact ⟨by rw [h.env], by rw [h.env]⟩
  · intro _; rw [h.ifReg]; simp
  · intro _; rw [h.timer]
  · intro _; rw [h.timer]
  · intro _; exact h.reg
  all_goals intro _; rw [h.ppu]

theorem dmaT_inv {s : State} (h : s.dma.Inv) : (dmaT s).dma.Inv := by
  by_cases ha : s.dma.active = true
  · have hr := h.running ha
    unfold dmaT
    rw [if_pos ha]
    split
    · unfold dmaCopy
      constructor
      · exact h.src
      · simp; omega
      · simp; omega
      · simp
    · exact ⟨h.src, h.index, h.running, by have := h.sub; simp; omega⟩
  · rw [dmaT_idle (by simpa using ha)]; exact h

/-! ## The collaborators -/

/-- What the collaborators' requests keep: all but IF, `stopped` and the schedule (R302). -/
structure CollabOnly (s t : State) : Prop where
  regs : t.regs = s.regs
  latch : LatchFrame s t
  cycles : t.cycles = s.cycles
  requests : s.ifReg &&& t.ifReg = s.ifReg
  ieReg : t.ieReg = s.ieReg
  timer : t.timer = s.timer
  dma : t.dma = s.dma
  ppu : t.ppu = s.ppu
  bootMapped : t.bootMapped = s.bootMapped
  mem : t.mem = s.mem
  env : t.env = { s.env with inputs := t.env.inputs }

theorem CollabOnly.trans {s t u : State} (h₁ : CollabOnly s t) (h₂ : CollabOnly t u) : CollabOnly s u := by
  constructor
  · rw [h₂.regs, h₁.regs]
  · exact h₁.latch.trans h₂.latch
  · rw [h₂.cycles, h₁.cycles]
  · rw [← h₁.requests, BitVec.and_assoc, h₂.requests]
  · rw [h₂.ieReg, h₁.ieReg]
  · rw [h₂.timer, h₁.timer]
  · rw [h₂.dma, h₁.dma]
  · rw [h₂.ppu, h₁.ppu]
  · rw [h₂.bootMapped, h₁.bootMapped]
  · rw [h₂.mem, h₁.mem]
  · rw [h₂.env, h₁.env]

theorem deliver_only (e : ExtEvent) (s : State) : CollabOnly s (deliver e s) := by
  cases e <;> constructor <;> simp [deliver, LatchFrame]

theorem deliverDue_only (l : List (Nat × ExtEvent)) (s : State) : CollabOnly s (deliverDue l s) := by
  induction l generalizing s with
  | nil => constructor <;> simp [deliverDue, LatchFrame]
  | cons p rest ih =>
    obtain ⟨n, e⟩ := p
    cases n with
    | zero => exact (deliver_only e s).trans (ih _)
    | succ n => constructor <;> simp [deliverDue, LatchFrame]

theorem collaboratorsT_only (s : State) : CollabOnly s (collaboratorsT s) := deliverDue_only _ s

theorem CollabOnly.frame {s t : State} (h : CollabOnly s t) : MemoryFrame [] s t := by
  have hl : t.env.launch = s.env.launch := by rw [h.env]
  constructor
  · intro x _ _; exact ramRead_congr h.mem hl x
  · intro _ _ x _; exact ramRead_congr h.mem hl x
  · intro hd _; rw [h.dma]; exact hd
  · intro _; exact h.ieReg
  · intro _; exact h.bootMapped
  · intro _; rw [h.env]
  · exact ⟨by rw [h.env], hl⟩
  · intro _; exact h.requests
  · intro _; rw [h.timer]
  · intro _; rw [h.timer]
  · intro _; rw [h.dma]
  all_goals intro _; rw [h.ppu]

/-! ## The T-cycle and the M-cycle -/

@[simp] theorem tickT_regs (s : State) : (tickT s).regs = s.regs := by
  unfold tickT
  rw [(collaboratorsT_only _).regs, (ppuT_only _).regs, (dmaT_only _).regs, timerT_regs]

@[simp] theorem tickT_cycles (s : State) : (tickT s).cycles = s.cycles := by
  unfold tickT
  rw [(collaboratorsT_only _).cycles, (ppuT_only _).cycles, (dmaT_only _).cycles, timerT_cycles]

theorem tickT_latch (s : State) : LatchFrame s (tickT s) :=
  (LatchFrame.of_eq (by rw [(ppuT_only _).latch, (dmaT_only _).latch, timerT_latch])).trans
    (collaboratorsT_only _).latch

/-- Each T-cycle takes the timer one step, and no other agent touches it (R86, R330). -/
@[simp] theorem tickT_timer (s : State) : (tickT s).timer = s.timer.window.count := by
  unfold tickT
  rw [(collaboratorsT_only _).timer, (ppuT_only _).timer, (dmaT_only _).timer, timerT_timer]

theorem tickT_dmaInv {s : State} (h : s.dma.Inv) : (tickT s).dma.Inv := by
  unfold tickT
  rw [(collaboratorsT_only _).dma, (ppuT_only _).dma]
  exact dmaT_inv (by rw [timerT_dma]; exact h)

theorem tickT_frame {s : State} (h : s.dma.Inv) : MemoryFrame [] s (tickT s) := by
  have h1 : (timerT s).dma.Inv := by rw [timerT_dma]; exact h
  exact (((timerT_frame s).trans (dmaT_frame h1)).trans (ppuT_only _).frame).trans (collaboratorsT_only _).frame

@[simp] theorem mcycle_regs (s : State) : (mcycle s).regs = s.regs := by simp [mcycle]

@[simp] theorem mcycle_cycles (s : State) : (mcycle s).cycles = s.cycles + 4 := by simp [mcycle]

theorem mcycle_latch (s : State) : LatchFrame s (mcycle s) :=
  (((tickT_latch _).trans (tickT_latch _)).trans (tickT_latch _)).trans (tickT_latch _)

theorem mcycle_dmaInv {s : State} (h : s.dma.Inv) : (mcycle s).dma.Inv :=
  tickT_dmaInv (tickT_dmaInv (tickT_dmaInv (tickT_dmaInv h)))

theorem mcycle_frame {s : State} (h : s.dma.Inv) : MemoryFrame [] s (mcycle s) := by
  have h1 := tickT_dmaInv h
  have h2 := tickT_dmaInv h1
  have h3 := tickT_dmaInv h2
  exact ((((tickT_frame h).trans (tickT_frame h1)).trans (tickT_frame h2)).trans (tickT_frame h3)).trans
    (.of_cpu rfl)

/-! ## CPU-side accesses -/

theorem afterCpuRead_keeps (a : Word) (s : State) :
    afterCpuRead a s = s ∨ afterCpuRead a s = takeDraw s := by
  unfold afterCpuRead; split
  · exact .inl rfl
  · exact afterBusRead_keeps a s

theorem afterCpuRead_frame (a : Word) (s : State) : MemoryFrame [] s (afterCpuRead a s) := by
  rcases afterCpuRead_keeps a s with h | h <;> rw [h]
  · exact MemoryFrame.refl s
  · exact takeDraw_frame s

theorem writeLcdc_keeps (v : Byte) (s : State) :
    writeLcdc v s = { s with ppu := (writeLcdc v s).ppu, env := (writeLcdc v s).env } ∧
      (writeLcdc v s).env = { s.env with outputs := (writeLcdc v s).env.outputs } := by
  unfold writeLcdc present; dsimp only
  split
  · exact ⟨rfl, rfl⟩
  · split <;> exact ⟨rfl, rfl⟩

theorem writeLcdc_ppu (v : Byte) (s : State) :
    (writeLcdc v s).ppu.statSel = s.ppu.statSel ∧ (writeLcdc v s).ppu.scy = s.ppu.scy ∧
    (writeLcdc v s).ppu.scx = s.ppu.scx ∧ (writeLcdc v s).ppu.lyc = s.ppu.lyc ∧
    (writeLcdc v s).ppu.bgp = s.ppu.bgp ∧ (writeLcdc v s).ppu.obp0 = s.ppu.obp0 ∧
    (writeLcdc v s).ppu.obp1 = s.ppu.obp1 ∧ (writeLcdc v s).ppu.wy = s.ppu.wy ∧
    (writeLcdc v s).ppu.wx = s.ppu.wx := by
  unfold writeLcdc present Ppu.turnOff Ppu.turnOn; dsimp only
  split
  · simp
  · split <;> simp

/-- A CPU write changes none of the CPU's own registers, latches or the cycle counter. -/
theorem busWrite_cpu (a : Word) (v : Byte) (s : State) :
    (busWrite a v s).regs = s.regs ∧ (busWrite a v s).latch = s.latch ∧ (busWrite a v s).cycles = s.cycles := by
  unfold busWrite ioWrite
  cases regionOf a <;> simp only <;> try simp
  cases ioRegOf a <;> simp only <;> try simp
  rw [(writeLcdc_keeps v s).1]; simp

@[simp] theorem cpuWrite_regs (a : Word) (v : Byte) (s : State) : (cpuWrite a v s).regs = s.regs := by
  unfold cpuWrite; split
  · rfl
  · exact (busWrite_cpu a v s).1

@[simp] theorem cpuWrite_latch (a : Word) (v : Byte) (s : State) : (cpuWrite a v s).latch = s.latch := by
  unfold cpuWrite; split
  · rfl
  · exact (busWrite_cpu a v s).2.1

@[simp] theorem cpuWrite_cycles (a : Word) (v : Byte) (s : State) : (cpuWrite a v s).cycles = s.cycles := by
  unfold cpuWrite; split
  · rfl
  · exact (busWrite_cpu a v s).2.2

@[simp] theorem afterCpuRead_regs (a : Word) (s : State) : (afterCpuRead a s).regs = s.regs := by
  rcases afterCpuRead_keeps a s with h | h <;> simp [h]
@[simp] theorem afterCpuRead_latch (a : Word) (s : State) : (afterCpuRead a s).latch = s.latch := by
  rcases afterCpuRead_keeps a s with h | h <;> simp [h]
@[simp] theorem afterCpuRead_cycles (a : Word) (s : State) : (afterCpuRead a s).cycles = s.cycles := by
  rcases afterCpuRead_keeps a s with h | h <;> simp [h]
@[simp] theorem afterCpuRead_dma (a : Word) (s : State) : (afterCpuRead a s).dma = s.dma := by
  rcases afterCpuRead_keeps a s with h | h <;> simp [h]

theorem dmaStart_inv (v : Byte) : (Dma.start v).Inv := by
  constructor <;> simp [Dma.start]

theorem busWrite_dma (a : Word) (v : Byte) (s : State) :
    (busWrite a v s).dma = s.dma ∨ (busWrite a v s).dma = Dma.start v := by
  unfold busWrite ioWrite
  cases regionOf a <;> simp only <;> try simp
  cases ioRegOf a <;> simp only <;> try simp
  left; rw [(writeLcdc_keeps v s).1]

theorem cpuWrite_dmaInv {s : State} (h : s.dma.Inv) (a : Word) (v : Byte) : (cpuWrite a v s).dma.Inv := by
  unfold cpuWrite; split
  · exact h
  · rcases busWrite_dma a v s with e | e <;> rw [e]
    · exact h
    · exact dmaStart_inv v

end Sys2Proof.Machine
end

