-- ==== Sys2Proof/Laws/Access.lean ====
section
/-! SUPPORT. What a CPU-side access and the CPU's primitives may change: their memory frames, registers and cycles. -/

namespace Sys2Proof.Machine

/-! ## Where the registers are -/

/-- The address of an I/O register of the block (R74). -/
def IoReg.At (a : Word) : IoReg → Prop
  | .div => a = 0xFF04 | .tima => a = 0xFF05 | .tma => a = 0xFF06 | .tac => a = 0xFF07 | .ifReg => a = 0xFF0F
  | .lcdc => a = 0xFF40 | .stat => a = 0xFF41 | .scy => a = 0xFF42 | .scx => a = 0xFF43 | .ly => a = 0xFF44
  | .lyc => a = 0xFF45 | .dma => a = 0xFF46 | .bgp => a = 0xFF47 | .obp0 => a = 0xFF48 | .obp1 => a = 0xFF49
  | .wy => a = 0xFF4A | .wx => a = 0xFF4B | .boot => a = 0xFF50
  | .joypad | .serial | .apu | .unclaimed => True

theorem ioRegOf_at (a : Word) : IoReg.At a (ioRegOf a) := by
  unfold ioRegOf
  repeat' refine iteInduction (fun _ => ?_) (fun _ => ?_)
  all_goals first | assumption | exact trivial

theorem regionOf_ie {a : Word} (h : regionOf a = .ie) : a = 0xFFFF := by
  unfold regionOf at h
  split_ifs at h
  bv_omega

/-! ## A CPU write -/

theorem ramWrite_frame {x : Nat} {a : Word} (h : storageOf a = some x) (v : Byte) (s : State) :
    MemoryFrame [a] s (ramWrite x v s) := by
  have key : ∀ y, (∀ b ∈ [a], storageOf b ≠ some y) → ramRead (ramWrite x v s) y = ramRead s y := by
    intro y hy
    refine ramRead_ramWrite_other (fun e => hy a (by simp) ?_) v s
    rw [h, e]
  constructor <;> first | exact fun y _ hy => key y hy | exact fun _ _ y hy => key y hy | exact fun hd _ => hd | simp

theorem env_frame {a : Word} (v : Byte) (s : State) (ha : isCartridge a = true) :
    MemoryFrame [a] s (s.setEnv (s.env.cartWrite a v)) := by
  constructor <;> first | exact fun hd _ => hd | simp [ramRead, unwrittenByte, Env.cartWrite, ha]

theorem timerKeeps_frame {a : Word} (s : State) {t : Timer} (h1 : 0xFF06 ∉ [a] → t.tma = s.timer.tma)
    (h2 : 0xFF07 ∉ [a] → t.tac = s.timer.tac) : MemoryFrame [a] s (s.setTimer t) := by
  constructor <;> first | assumption | exact fun hd _ => hd | simp [ramRead, unwrittenByte]

theorem writeLcdc_frame (v : Byte) (s : State) : MemoryFrame [0xFF40] s (writeLcdc v s) := by
  obtain ⟨h1, h2, h3, h4, h5, h6, h7, h8, h9⟩ := writeLcdc_ppu v s
  obtain ⟨hs, he⟩ := writeLcdc_keeps v s
  have hm : (writeLcdc v s).mem = s.mem := by rw [hs]
  have hl : (writeLcdc v s).env.launch = s.env.launch := by rw [he]
  constructor
  · intro x _ _; exact ramRead_congr hm hl x
  · intro _ _ x _; exact ramRead_congr hm hl x
  · intro hd _; rw [hs]; exact hd
  · intro _; rw [hs]
  · intro _; rw [hs]
  · intro _; rw [he]
  · exact ⟨by rw [he], hl⟩
  · intro _; rw [hs]; simp
  · intro _; rw [hs]
  · intro _; rw [hs]
  · intro _; rw [hs]
  · intro h; simp at h
  all_goals intro _; assumption

theorem ioWrite_frame {a : Word} (v : Byte) (s : State) : MemoryFrame [a] s (ioWrite a v s) := by
  have h := ioRegOf_at a
  unfold ioWrite
  cases e : ioRegOf a <;> rw [e] at h <;> simp only [IoReg.At] at h ⊢
  case lcdc => have h : a = 0xFF40 := h; subst h; exact writeLcdc_frame v s
  case div =>
    have k := Timer.edgeCheck_keeps { s.timer with sysCounter := 0 }
    exact timerKeeps_frame s (fun _ => k.1) (fun _ => k.2.1)
  case tac =>
    have h : a = 0xFF07 := h; subst h
    have k := Timer.edgeCheck_keeps { s.timer with tac := v.setWidth 3 }
    exact timerKeeps_frame s (fun _ => k.1) (fun hn => by simp at hn)
  all_goals
    constructor <;> first | exact fun hd _ => hd |
      simp_all [ramRead, unwrittenByte, Env.ioWrite, Timer.writeTima, Timer.writeTma]

theorem busWrite_frame (a : Word) (v : Byte) (s : State) : MemoryFrame [a] s (busWrite a v s) := by
  unfold busWrite
  cases e : regionOf a <;> simp only
  case rom => exact env_frame v s (by simp [isCartridge, e])
  case extRam => exact env_frame v s (by simp [isCartridge, e])
  case io => exact ioWrite_frame v s
  case prohibited => constructor <;> first | exact fun hd _ => hd | simp
  case ie =>
    have h := regionOf_ie e
    subst h
    constructor <;> first | exact fun hd _ => hd | simp [ramRead, unwrittenByte]
  all_goals exact ramWrite_frame (by simp [storageOf, e]) v s

/-- A CPU write changes what its address reaches, and nothing else within the frame. -/
theorem cpuWrite_frame (a : Word) (v : Byte) (s : State) : MemoryFrame [a] s (cpuWrite a v s) := by
  unfold cpuWrite; split
  · constructor <;> first | exact fun hd _ => hd | simp
  · exact busWrite_frame a v s

/-! ## The primitives -/

@[simp] theorem internal_regs (s : State) : (internal s).regs = s.regs := mcycle_regs s
@[simp] theorem internal_cycles (s : State) : (internal s).cycles = s.cycles + 4 := mcycle_cycles s
@[simp] theorem memRead_regs (a : Word) (s : State) : (memRead a s).regs = s.regs := by simp [memRead]
@[simp] theorem memRead_cycles (a : Word) (s : State) : (memRead a s).cycles = s.cycles + 4 := by simp [memRead]
@[simp] theorem memWrite_regs (a : Word) (v : Byte) (s : State) : (memWrite a v s).regs = s.regs := by simp [memWrite]
@[simp] theorem memWrite_cycles (a : Word) (v : Byte) (s : State) : (memWrite a v s).cycles = s.cycles + 4 := by
  simp [memWrite]

theorem internal_latch (s : State) : LatchFrame s (internal s) := mcycle_latch s
theorem memRead_latch (a : Word) (s : State) : LatchFrame s (memRead a s) :=
  (LatchFrame.of_eq (afterCpuRead_latch a s)).trans (mcycle_latch _)
theorem memWrite_latch (a : Word) (v : Byte) (s : State) : LatchFrame s (memWrite a v s) :=
  (LatchFrame.of_eq (cpuWrite_latch a v s)).trans (mcycle_latch _)

theorem internal_dmaInv {s : State} (h : s.dma.Inv) : (internal s).dma.Inv := mcycle_dmaInv h
theorem memRead_dmaInv {s : State} (h : s.dma.Inv) (a : Word) : (memRead a s).dma.Inv :=
  mcycle_dmaInv (by rw [afterCpuRead_dma]; exact h)
theorem memWrite_dmaInv {s : State} (h : s.dma.Inv) (a : Word) (v : Byte) : (memWrite a v s).dma.Inv :=
  mcycle_dmaInv (cpuWrite_dmaInv h a v)

theorem internal_frame {s : State} (h : s.dma.Inv) : MemoryFrame [] s (internal s) := mcycle_frame h
theorem memRead_frame {s : State} (h : s.dma.Inv) (a : Word) : MemoryFrame [] s (memRead a s) :=
  (afterCpuRead_frame a s).trans (mcycle_frame (by rw [afterCpuRead_dma]; exact h))
theorem memWrite_frame {s : State} (h : s.dma.Inv) (a : Word) (v : Byte) : MemoryFrame [a] s (memWrite a v s) :=
  (cpuWrite_frame a v s).trans (mcycle_frame (cpuWrite_dmaInv h a v))

@[simp] theorem fetch_cycles (s : State) : (fetch s).cycles = s.cycles + 4 := by
  unfold fetch; dsimp only; split <;> simp

@[simp] theorem imm8_cycles (s : State) : (imm8 s).cycles = s.cycles + 4 := by simp [imm8]
@[simp] theorem imm8_regs (s : State) : (imm8 s).regs = { s.regs with pc := s.regs.pc + 1 } := by simp [imm8]

/-- The opcode fetch advances PC unless the halt bug is pending (R293). -/
theorem fetch_regs (s : State) :
    (fetch s).regs = { s.regs with pc := if s.latch.haltBug then s.regs.pc else s.regs.pc + 1 } := by
  have h : (memRead s.regs.pc s).latch.haltBug = s.latch.haltBug := by
    rw [(memRead_latch s.regs.pc s).1]
  unfold fetch; dsimp only; rw [h]
  split <;> simp

/-- The opcode fetch consumes the halt bug (R29). -/
theorem fetch_haltBug (s : State) : (fetch s).latch.haltBug = false := by
  unfold fetch; dsimp only
  split
  · rfl
  · rename_i h; simpa [State.advancePc, State.setPc] using h

@[simp] theorem pushByte_cycles (v : Byte) (s : State) : (pushByte v s).cycles = s.cycles + 4 := by simp [pushByte]
@[simp] theorem pushByte_regs (v : Byte) (s : State) :
    (pushByte v s).regs = { s.regs with sp := s.regs.sp - 1 } := by simp [pushByte]
@[simp] theorem push16_cycles (v : Word) (s : State) : (push16 v s).cycles = s.cycles + 8 := by
  simp [push16, BitVec.add_assoc]
@[simp] theorem push16_regs (v : Word) (s : State) : (push16 v s).regs = { s.regs with sp := s.regs.sp - 2 } := by
  have h : s.regs.sp - 1#16 - 1#16 = s.regs.sp - 2#16 := by bv_omega
  simp [push16, h]
@[simp] theorem popByte_cycles (s : State) : (popByte s).cycles = s.cycles + 4 := by simp [popByte]
@[simp] theorem popByte_regs (s : State) : (popByte s).regs = { s.regs with sp := s.regs.sp + 1 } := by simp [popByte]
@[simp] theorem pop16_cycles (s : State) : (pop16 s).cycles = s.cycles + 8 := by simp [pop16, BitVec.add_assoc]
@[simp] theorem pop16_regs (s : State) : (pop16 s).regs = { s.regs with sp := s.regs.sp + 2 } := by
  have h : s.regs.sp + 1#16 + 1#16 = s.regs.sp + 2#16 := by bv_omega
  simp [pop16, h]

theorem pushByte_latch (v : Byte) (s : State) : LatchFrame s (pushByte v s) :=
  (LatchFrame.of_eq (t := s.setSp (s.regs.sp - 1)) rfl).trans (memWrite_latch _ _ _)
theorem push16_latch (v : Word) (s : State) : LatchFrame s (push16 v s) :=
  (pushByte_latch _ _).trans (pushByte_latch _ _)
theorem popByte_latch (s : State) : LatchFrame s (popByte s) :=
  (memRead_latch _ _).trans (LatchFrame.of_eq rfl)
theorem pop16_latch (s : State) : LatchFrame s (pop16 s) := (popByte_latch _).trans (popByte_latch _)

theorem pushByte_dmaInv {s : State} (h : s.dma.Inv) (v : Byte) : (pushByte v s).dma.Inv :=
  memWrite_dmaInv (s := s.setSp (s.regs.sp - 1)) h _ _
theorem push16_dmaInv {s : State} (h : s.dma.Inv) (v : Word) : (push16 v s).dma.Inv :=
  pushByte_dmaInv (pushByte_dmaInv h _) _
theorem popByte_dmaInv {s : State} (h : s.dma.Inv) : (popByte s).dma.Inv := memRead_dmaInv h _
theorem pop16_dmaInv {s : State} (h : s.dma.Inv) : (pop16 s).dma.Inv := popByte_dmaInv (popByte_dmaInv h)

theorem pushByte_frame {s : State} (h : s.dma.Inv) (v : Byte) :
    MemoryFrame [s.regs.sp - 1] s (pushByte v s) :=
  (MemoryFrame.of_cpu rfl).trans (memWrite_frame (s := s.setSp (s.regs.sp - 1)) h (s.regs.sp - 1) v)
theorem push16_frame {s : State} (h : s.dma.Inv) (v : Word) :
    MemoryFrame [s.regs.sp - 1, s.regs.sp - 2] s (push16 v s) := by
  have e : s.regs.sp - 1 - 1 = s.regs.sp - 2 := by bv_omega
  have h2 := pushByte_frame (pushByte_dmaInv h (hiByte v)) (loByte v)
  rw [pushByte_regs] at h2
  simp only [e] at h2
  exact (pushByte_frame h (hiByte v)).trans h2
theorem popByte_frame {s : State} (h : s.dma.Inv) : MemoryFrame [] s (popByte s) :=
  (memRead_frame h s.regs.sp).trans (.of_cpu rfl)
theorem pop16_frame {s : State} (h : s.dma.Inv) : MemoryFrame [] s (pop16 s) :=
  (popByte_frame h).trans (popByte_frame (popByte_dmaInv h))

end Sys2Proof.Machine
end

