-- ==== Sys2Proof/Laws/PpuInv.lean ====
section
/-! SUPPORT. A dot keeps the PPU's invariant and the form of the framebuffers (R390). -/

namespace Sys2Proof.Machine

/-! ## What the functions do to the PPU's own state -/

@[simp] theorem enterMode_ppu (m : PpuMode) (s : State) : (enterMode m s).ppu = { s.ppu with mode := m } := by
  unfold enterMode; dsimp only; split <;> rfl

@[simp] theorem lycUpdate_ppu (s : State) :
    (lycUpdate s).ppu = { s.ppu with lycEqual := decide (s.ppu.ly = s.ppu.lyc.toNat) } := by
  unfold lycUpdate; dsimp only; split <;> rfl

@[simp] theorem startLine_ppu (s : State) : (startLine s).ppu = { s.ppu with sprites := [], mode := .oamScan } := by
  simp [startLine]

@[simp] theorem startFrame_ppu (s : State) : (startFrame s).ppu =
    { s.ppu with ly := 0, wyTriggered := false, windowLine := 0, sprites := [], mode := .oamScan } := by
  simp [startFrame]

@[simp] theorem startVblank_ppu (s : State) : (startVblank s).ppu =
    { s.ppu with mode := .vblank, drawFb := s.ppu.visibleFb, visibleFb := s.ppu.drawFb } := by
  simp [startVblank, framePresent, present]

/-! ## The parts of the invariant that do not speak of the mode -/

/-- The bounds of the selection and the FIFOs (R390). -/
structure Ppu.Bounds (p : Ppu) : Prop where
  count : p.sprites.length ≤ 10
  order : p.sprites.Pairwise (fun a b => a.index < b.index)
  range : ∀ sp ∈ p.sprites, sp.index < 40
  left : p.spriteFetchLeft ≤ 5
  discard : p.discard ≤ 7
  bg : p.bgFifo.length ≤ 8
  obj : p.objFifo.length ≤ 8

/-- The form of a framebuffer (R57). -/
def FbOk (fb : FrameBuffer) : Prop := fb.wf ∧ ∀ p ∈ fb, p.1 < 23040

theorem FbOk.write {fb : FrameBuffer} (h : FbOk fb) {x y : Nat} (hx : x < 160) (hy : y < 144) (v : Shade) :
    FbOk (fb.write (pixelIndex x y) v) := by
  refine ⟨FrameBuffer.write_wf h.1 _ _, fun p hp => ?_⟩
  rcases FrameBuffer.mem_write hp with hp | rfl
  · exact h.2 p hp
  · show 160 * y + x < 23040; omega

theorem FbOk.nil : FbOk [] := by simp [FbOk, FrameBuffer.wf]

theorem Ppu.Inv.bounds {p : Ppu} (h : p.Inv) : p.Bounds :=
  ⟨h.spriteCount, h.spriteOrder, h.spriteRange, h.fetchLeft, h.discard, h.bgFifo, h.objFifo⟩

theorem Ppu.lcdOn_congr {p q : Ppu} (h : q.lcdc = p.lcdc) : q.lcdOn = p.lcdOn := by simp only [Ppu.lcdOn, h]

/-! ## Mode 3 -/

/-- A PPU within a mode-3 dot of line `ly`: still transferring with pixels to go, or just through. -/
structure Ppu.Transfer (p q : Ppu) : Prop where
  bounds : q.Bounds
  ly : q.ly = p.ly
  dot : q.dot = p.dot
  lcdc : q.lcdc = p.lcdc
  visible : q.visibleFb = p.visibleFb
  mode : q.mode = .pixelXfer ∨ q.mode = .hblank
  lx : q.mode = .pixelXfer → q.lx < 160
  fetching : q.mode = .pixelXfer → 0 < q.spriteFetchLeft → ∃ sp ∈ q.sprites, sp.index = q.fetching
  draw : p.ly < 144 → FbOk p.drawFb → FbOk q.drawFb

theorem Ppu.Transfer.trans {p q r : Ppu} (h₁ : p.Transfer q) (h₂ : q.Transfer r) : p.Transfer r where
  bounds := h₂.bounds
  ly := h₂.ly.trans h₁.ly
  dot := h₂.dot.trans h₁.dot
  lcdc := h₂.lcdc.trans h₁.lcdc
  visible := h₂.visible.trans h₁.visible
  mode := h₂.mode
  lx := h₂.lx
  fetching := h₂.fetching
  draw := fun hl hd => h₂.draw (h₁.ly ▸ hl) (h₁.draw hl hd)

/-- What a mode-3 dot starts from. -/
structure Ppu.Ready (p : Ppu) : Prop where
  bounds : p.Bounds
  mode : p.mode = .pixelXfer
  lx : p.lx < 160
  fetching : 0 < p.spriteFetchLeft → ∃ sp ∈ p.sprites, sp.index = p.fetching

theorem Ppu.Ready.self {p : Ppu} (h : p.Ready) : p.Transfer p where
  bounds := h.bounds
  ly := rfl
  dot := rfl
  lcdc := rfl
  visible := rfl
  mode := .inl h.mode
  lx := fun _ => h.lx
  fetching := fun _ => h.fetching
  draw := fun _ hd => hd

theorem windowCheck_ready {p : Ppu} (h : p.Ready) : p.windowCheck.Ready ∧ p.Transfer p.windowCheck := by
  have b := h.bounds
  unfold Ppu.windowCheck
  split
  · exact ⟨⟨⟨b.count, b.order, b.range, b.left, by simp, by simp, b.obj⟩, h.mode, h.lx, h.fetching⟩,
      ⟨⟨b.count, b.order, b.range, b.left, by simp, by simp, b.obj⟩, rfl, rfl, rfl, rfl, .inl h.mode, fun _ => h.lx,
        fun _ => h.fetching, fun _ hd => hd⟩⟩
  · exact ⟨h, h.self⟩

/-- The fetcher changes its own latches and, in Push, an empty background FIFO (R369). -/
theorem fetcherDot_ppu (s : State) : ∃ fs sub tx id lo hi bg,
    (fetcherDot s).ppu = { s.ppu with
      fetchState := fs, fetchSub := sub, fetchTileX := tx, tileId := id, tileLo := lo, tileHi := hi, bgFifo := bg } ∧
      (bg = s.ppu.bgFifo ∨ bg.length = 8) := by
  unfold fetcherDot fetcherAction; dsimp only
  split
  case isTrue =>
    split
    case h_4 =>
      split
      · exact ⟨_, _, _, _, _, _, _, rfl, .inr (by simp [rowPixels])⟩
      · exact ⟨_, _, _, _, _, _, _, rfl, .inl rfl⟩
    all_goals exact ⟨_, _, _, _, _, _, _, rfl, .inl rfl⟩
  case isFalse => exact ⟨_, _, _, _, _, _, _, rfl, .inl rfl⟩

theorem fetcherDot_ready {s : State} (h : s.ppu.Ready) :
    (fetcherDot s).ppu.Ready ∧ s.ppu.Transfer (fetcherDot s).ppu := by
  obtain ⟨fs, sub, tx, id, lo, hi, bg, e, hbg⟩ := fetcherDot_ppu s
  have b := h.bounds
  have hb : bg.length ≤ 8 := by rcases hbg with rfl | hbg <;> [exact b.bg; omega]
  rw [e]
  exact ⟨⟨⟨b.count, b.order, b.range, b.left, b.discard, hb, b.obj⟩, h.mode, h.lx, h.fetching⟩,
    ⟨⟨b.count, b.order, b.range, b.left, b.discard, hb, b.obj⟩, rfl, rfl, rfl, rfl, .inl h.mode, fun _ => h.lx,
      fun _ => h.fetching, fun _ hd => hd⟩⟩

theorem mixObj_length (a b : List ObjPixel) : (mixObj a b).length ≤ a.length := by
  induction a generalizing b with
  | nil => cases b <;> simp [mixObj]
  | cons o os ih =>
    cases b with
    | nil => simp [mixObj]
    | cons n ns => simpa [mixObj] using ih ns

theorem spriteMix_transfer {s : State} (sp : Sprite) (h : s.ppu.Ready) : s.ppu.Transfer (spriteMix sp s).ppu := by
  have b := h.bounds
  have ho : ∀ ns, (mixObj (padObj s.ppu.objFifo) ns).length ≤ 8 := by
    intro ns
    have h1 := mixObj_length (padObj s.ppu.objFifo) ns
    have h2 := b.obj
    simp only [padObj, List.length_append, List.length_replicate] at h1
    simp only [padObj]
    omega
  exact ⟨⟨b.count, b.order, b.range, b.left, b.discard, b.bg, ho _⟩, rfl, rfl, rfl, rfl, .inl h.mode, fun _ => h.lx,
    fun _ => h.fetching, fun _ hd => hd⟩

theorem spriteFetchDot_transfer {s : State} (h : s.ppu.Ready) (hl : 0 < s.ppu.spriteFetchLeft) :
    s.ppu.Transfer (spriteFetchDot s).ppu := by
  have b := h.bounds
  have hr : ({ s.ppu with spriteFetchLeft := s.ppu.spriteFetchLeft - 1 } : Ppu).Ready :=
    ⟨⟨b.count, b.order, b.range, by have := b.left; simp; omega, b.discard, b.bg, b.obj⟩, h.mode, h.lx,
      fun _ => h.fetching hl⟩
  have ht : s.ppu.Transfer { s.ppu with spriteFetchLeft := s.ppu.spriteFetchLeft - 1 } :=
    ⟨hr.bounds, rfl, rfl, rfl, rfl, .inl h.mode, fun _ => h.lx, fun _ => hr.fetching, fun _ hd => hd⟩
  unfold spriteFetchDot spriteFetchComplete; dsimp only
  split
  · split
    · exact ht.trans (spriteMix_transfer (s := s.setPpu _) _ hr)
    · exact ht
  · exact ht

theorem startSpriteFetch_transfer {p : Ppu} (h : p.Ready) {sp : Sprite} (hs : sp ∈ p.sprites) :
    p.Transfer (p.startSpriteFetch sp) := by
  have b := h.bounds
  have hi : ∀ q : Sprite, (if q.index = sp.index then { q with fetched := true } else q).index = q.index := by
    intro q; split <;> rfl
  unfold Ppu.startSpriteFetch
  refine ⟨⟨by simpa using b.count, ?_, ?_, by simp, b.discard, b.bg, b.obj⟩, rfl, rfl, rfl, rfl, .inl h.mode,
    fun _ => h.lx, ?_, fun _ hd => hd⟩
  · refine List.pairwise_map.mpr (b.order.imp ?_)
    intro x y hxy; rw [hi, hi]; exact hxy
  · intro q hq
    obtain ⟨q', hq', rfl⟩ := List.mem_map.mp hq
    rw [hi]; exact b.range q' hq'
  · intro _ _
    exact ⟨_, List.mem_map.mpr ⟨sp, hs, rfl⟩, by simp⟩

@[simp] theorem lineOut_ppu (s : State) : ∃ wl, (lineOut s).ppu = { s.ppu with mode := .hblank, windowLine := wl } := by
  unfold lineOut; dsimp only
  split
  · exact ⟨_, by simp; rfl⟩
  · exact ⟨_, by simp; rfl⟩

theorem shiftOut_transfer {s : State} (h : s.ppu.Ready) {b : Colour} {rest : List Colour}
    (hb : s.ppu.bgFifo = b :: rest) : s.ppu.Transfer (shiftOut b rest s).ppu := by
  have bd := h.bounds
  have hlen : rest.length ≤ 8 := by have := bd.bg; rw [hb] at this; simp at this; omega
  have ho : s.ppu.objFifo.tail.length ≤ 8 := by have := bd.obj; simp; omega
  have hlx := h.lx
  unfold shiftOut; dsimp only
  split
  · exact ⟨⟨bd.count, bd.order, bd.range, bd.left, by have := bd.discard; simp; omega, hlen, bd.obj⟩, rfl, rfl, rfl,
      rfl, .inl h.mode, fun _ => h.lx, fun _ => h.fetching, fun _ hd => hd⟩
  · have hw : ∀ v, s.ppu.ly < 144 → FbOk s.ppu.drawFb →
        FbOk (s.ppu.drawFb.write (pixelIndex s.ppu.lx s.ppu.ly) v) := fun v hl hd => hd.write hlx hl v
    split
    · rename_i h160
      obtain ⟨wl, e⟩ := lineOut_ppu (s.setPpu (Ppu.output { s.ppu with bgFifo := rest } b))
      rw [e]
      exact ⟨⟨bd.count, bd.order, bd.range, bd.left, bd.discard, hlen, ho⟩, rfl, rfl, rfl, rfl, .inr rfl,
        fun hm => by simp at hm, fun hm => by simp at hm, hw _⟩
    · rename_i h160
      exact ⟨⟨bd.count, bd.order, bd.range, bd.left, bd.discard, hlen, ho⟩, rfl, rfl, rfl, rfl, .inl h.mode,
        fun _ => by simp [Ppu.output] at h160 ⊢; omega, fun _ => h.fetching, hw _⟩

theorem shiftOrFetch_transfer {s : State} (h : s.ppu.Ready) : s.ppu.Transfer (shiftOrFetch s).ppu := by
  unfold shiftOrFetch
  split
  · rename_i sp hsp
    have hm : sp ∈ s.ppu.sprites := by
      unfold Ppu.spriteTrigger Ppu.nextSprite at hsp
      split at hsp
      · exact List.mem_of_find?_eq_some hsp
      · cases hsp
    exact startSpriteFetch_transfer h hm
  · split
    · exact h.self
    · rename_i b rest hb
      exact shiftOut_transfer h hb

theorem mode3Dot_transfer {s : State} (h : s.ppu.Ready) : s.ppu.Transfer (mode3Dot s).ppu := by
  unfold mode3Dot
  split
  · exact spriteFetchDot_transfer h ‹_›
  · obtain ⟨r1, t1⟩ := windowCheck_ready h
    obtain ⟨r2, t2⟩ := fetcherDot_ready (s := s.setPpu s.ppu.windowCheck) r1
    exact (t1.trans t2).trans (shiftOrFetch_transfer r2)

/-! ## Mode 2 -/

/-- Examining an entry selects nothing, or that entry if there is room (R366). -/
theorem scanned_cases (i : Nat) (s : State) : scanned i s = s.ppu.sprites ∨
    (s.ppu.sprites.length < 10 ∧ ∃ sp : Sprite, sp.index = i ∧ scanned i s = s.ppu.sprites ++ [sp]) := by
  unfold scanned; dsimp only
  split
  · rename_i h
    simp only [Bool.and_eq_true, decide_eq_true_eq] at h
    exact .inr ⟨h.2, _, rfl, rfl⟩
  · exact .inl rfl

theorem oamScanDot_ppu (s : State) : ∃ wy,
    (oamScanDot s).ppu = { s.ppu with wyTriggered := wy, sprites := (oamScanDot s).ppu.sprites } ∧
      ((oamScanDot s).ppu.sprites = s.ppu.sprites ∨
        (s.ppu.sprites.length < 10 ∧ s.ppu.dot % 2 = 0 ∧
          ∃ sp : Sprite, sp.index = s.ppu.dot / 2 ∧ (oamScanDot s).ppu.sprites = s.ppu.sprites ++ [sp])) := by
  have hw : ∃ wy, wyCheck s = s.setPpu { s.ppu with wyTriggered := wy } := by
    unfold wyCheck; split
    · exact ⟨_, rfl⟩
    · exact ⟨s.ppu.wyTriggered, rfl⟩
  obtain ⟨wy, hw⟩ := hw
  refine ⟨wy, ?_⟩
  unfold oamScanDot; rw [hw]; dsimp only
  split
  · rename_i hd
    refine ⟨rfl, ?_⟩
    rcases scanned_cases (s.ppu.dot / 2) (s.setPpu { s.ppu with wyTriggered := wy }) with e | ⟨hl, sp, hi, e⟩
    · exact .inl e
    · exact .inr ⟨hl, hd, sp, hi, e⟩
  · exact ⟨rfl, .inl rfl⟩

/-! ## The dot -/

/-- The PPU between the mode's work in a dot and the move to the next dot. -/
structure Ppu.Mid (p : Ppu) : Prop where
  bounds : p.Bounds
  on : p.lcdOn = true
  ly : p.ly ≤ 153
  dot : p.dot ≤ 455
  vblank : p.mode = .vblank ↔ 144 ≤ p.ly
  scan : p.mode = .oamScan → p.dot < 80 ∧ ∀ sp ∈ p.sprites, 2 * sp.index ≤ p.dot
  transfer : p.mode = .pixelXfer → 80 ≤ p.dot ∧ p.lx < 160
  blank : p.mode = .hblank → 80 ≤ p.dot
  fetching : p.mode = .pixelXfer → 0 < p.spriteFetchLeft → ∃ sp ∈ p.sprites, sp.index = p.fetching

theorem modeDot_mid {s : State} (h : s.ppu.Inv) (hon : s.ppu.lcdOn = true) :
    (modeDot s).ppu.Mid ∧ (modeDot s).ppu.visibleFb = s.ppu.visibleFb ∧
      (FbOk s.ppu.drawFb → FbOk (modeDot s).ppu.drawFb) := by
  have b := h.bounds
  have hv := h.vblank hon
  unfold modeDot
  split
  · rename_i hm
    obtain ⟨hd, hs⟩ := h.scan hm
    obtain ⟨wy, e, hsp⟩ := oamScanDot_ppu s
    generalize (oamScanDot s).ppu.sprites = sps at e hsp
    rw [e]
    refine ⟨⟨?_, hon, h.ly, h.dot, hv, fun _ => ⟨hd, ?_⟩, fun hx => ?_, fun hx => ?_, fun hx => ?_⟩, rfl, id⟩
    · rcases hsp with rfl | ⟨hl, h2, sp, hi, rfl⟩
      · exact ⟨b.count, b.order, b.range, b.left, b.discard, b.bg, b.obj⟩
      · refine ⟨by simp; omega, ?_, ?_, b.left, b.discard, b.bg, b.obj⟩
        · refine List.pairwise_append.mpr ⟨b.order, by simp, ?_⟩
          intro x hx y hy
          simp only [List.mem_singleton] at hy
          subst hy
          have := hs x hx
          omega
        · intro x hx
          rcases List.mem_append.mp hx with hx | hx
          · exact b.range x hx
          · simp only [List.mem_singleton] at hx; subst hx; omega
    · intro x hx
      simp only at hx ⊢
      rcases hsp with rfl | ⟨hl, h2, sp, hi, rfl⟩
      · exact Nat.le_of_lt (hs x hx)
      · rcases List.mem_append.mp hx with hx | hx
        · exact Nat.le_of_lt (hs x hx)
        · simp only [List.mem_singleton] at hx; subst hx; omega
    · simp [hm] at hx
    · simp [hm] at hx
    · simp [hm] at hx
  · rename_i hm
    obtain ⟨hd, hlx⟩ := h.transfer hm
    have t := mode3Dot_transfer (s := s) ⟨b, hm, hlx, h.fetching hm⟩
    have hly : s.ppu.ly < 144 := by
      by_contra hc
      rw [hv.mpr (by omega)] at hm
      cases hm
    refine ⟨⟨t.bounds, (Ppu.lcdOn_congr t.lcdc).trans hon, by rw [t.ly]; exact h.ly, by rw [t.dot]; exact h.dot, ?_, ?_,
      ?_, ?_, t.fetching⟩, t.visible, t.draw hly⟩
    · rw [t.ly]
      rcases t.mode with e | e <;> rw [e] <;> simp <;> omega
    · intro hx; rcases t.mode with e | e <;> rw [e] at hx <;> cases hx
    · intro hx; rw [t.dot]; exact ⟨hd, t.lx hx⟩
    · intro _; rw [t.dot]; exact hd
  · rename_i hm
    refine ⟨⟨b, hon, h.ly, h.dot, hv, ?_, ?_, fun hx => h.blank hon hx, ?_⟩, rfl, id⟩
    all_goals intro hx; rw [hm] at hx; cases hx
  · rename_i hm
    refine ⟨⟨b, hon, h.ly, h.dot, hv, ?_, ?_, ?_, ?_⟩, rfl, id⟩
    all_goals intro hx; rw [hm] at hx; cases hx

/-- The invariant of a PPU that is on, from its parts. -/
theorem Ppu.Bounds.inv {p : Ppu} (b : p.Bounds) (hon : p.lcdOn = true) (hly : p.ly ≤ 153) (hdot : p.dot ≤ 455)
    (hv : p.mode = .vblank ↔ 144 ≤ p.ly)
    (hs : p.mode = .oamScan → p.dot < 80 ∧ ∀ sp ∈ p.sprites, 2 * sp.index < p.dot)
    (ht : p.mode = .pixelXfer → 80 ≤ p.dot ∧ p.lx < 160) (hb : p.mode = .hblank → 80 ≤ p.dot)
    (hf : p.mode = .pixelXfer → 0 < p.spriteFetchLeft → ∃ sp ∈ p.sprites, sp.index = p.fetching) : p.Inv where
  ly := hly
  dot := hdot
  off := fun h => by rw [hon] at h; cases h
  vblank := fun _ => hv
  scan := hs
  transfer := ht
  blank := fun _ => hb
  spriteCount := b.count
  spriteOrder := b.order
  spriteRange := b.range
  fetchLeft := b.left
  fetching := hf
  discard := b.discard
  bgFifo := b.bg
  objFifo := b.obj

theorem endLine_inv {s : State} (b : s.ppu.Bounds) (hon : s.ppu.lcdOn = true) (hly : s.ppu.ly ≤ 153)
    (hv : s.ppu.mode = .vblank ↔ 144 ≤ s.ppu.ly) (hd : FbOk s.ppu.drawFb) (hvis : FbOk s.ppu.visibleFb) :
    (endLine s).ppu.Inv ∧ FbOk (endLine s).ppu.drawFb ∧ FbOk (endLine s).ppu.visibleFb := by
  have nil : ∀ q : Ppu, q.sprites = [] → q.spriteFetchLeft = s.ppu.spriteFetchLeft → q.discard = s.ppu.discard →
      q.bgFifo = s.ppu.bgFifo → q.objFifo = s.ppu.objFifo → q.Bounds := by
    intro q h1 h2 h3 h4 h5
    constructor <;> simp [h1, h2, h3, h4, h5, b.left, b.discard, b.bg, b.obj]
  unfold endLine; dsimp only
  split
  · rename_i h
    simp only [State.setPpu_ppu] at h
    rw [startVblank_ppu]
    refine ⟨Ppu.Bounds.inv ⟨b.count, b.order, b.range, b.left, b.discard, b.bg, b.obj⟩ hon ?_ ?_ ?_ ?_ ?_ ?_ ?_,
      hvis, hd⟩
    all_goals simp
    · omega
    · omega
  · split
    · rw [startFrame_ppu]
      refine ⟨Ppu.Bounds.inv (nil _ rfl rfl rfl rfl rfl) hon ?_ ?_ ?_ ?_ ?_ ?_ ?_, hd, hvis⟩
      all_goals simp
    · split
      · rename_i h
        simp only [State.setPpu_ppu] at h
        rw [startLine_ppu]
        refine ⟨Ppu.Bounds.inv (nil _ rfl rfl rfl rfl rfl) hon ?_ ?_ ?_ ?_ ?_ ?_ ?_, hd, hvis⟩
        all_goals simp
        all_goals omega
      · rename_i h1 h2 h3
        simp only [State.setPpu_ppu] at h1 h2 h3 ⊢
        have hm : s.ppu.mode = .vblank := hv.mpr (by omega)
        refine ⟨Ppu.Bounds.inv ⟨b.count, b.order, b.range, b.left, b.discard, b.bg, b.obj⟩ hon ?_ ?_ ?_ ?_ ?_ ?_ ?_,
          hd, hvis⟩
        all_goals simp [hm]
        all_goals omega

theorem advanceDot_inv {s : State} (h : s.ppu.Mid) (hd : FbOk s.ppu.drawFb) (hvis : FbOk s.ppu.visibleFb) :
    (advanceDot s).ppu.Inv ∧ FbOk (advanceDot s).ppu.drawFb ∧ FbOk (advanceDot s).ppu.visibleFb := by
  have b := h.bounds
  unfold advanceDot; dsimp only
  split
  · rename_i hc
    simp only [State.setPpu_ppu] at hc
    rw [if_neg (by simp [Ppu.lineStart]; omega)]
    simp only [enterMode_ppu, State.setPpu_ppu, Ppu.lineStart]
    have hv : ¬ 144 ≤ s.ppu.ly := fun hx => by rw [h.vblank.mpr hx] at hc; cases hc.1
    refine ⟨Ppu.Bounds.inv ⟨by simpa using b.count, ?_, ?_, by simp, ?_, by simp, by simp⟩ h.on h.ly ?_ ?_ ?_ ?_ ?_ ?_,
      hd, hvis⟩
    · exact List.pairwise_map.mpr (b.order.imp fun hxy => hxy)
    · intro q hq
      obtain ⟨q', hq', rfl⟩ := List.mem_map.mp hq
      exact b.range q' hq'
    all_goals simp
    all_goals omega
  · rename_i hc
    simp only [State.setPpu_ppu, not_and] at hc
    split
    · exact endLine_inv (s := s.setPpu { s.ppu with dot := s.ppu.dot + 1 })
        ⟨b.count, b.order, b.range, b.left, b.discard, b.bg, b.obj⟩ h.on h.ly h.vblank hd hvis
    · rename_i h456
      simp only [State.setPpu_ppu] at h456 ⊢
      refine ⟨Ppu.Bounds.inv ⟨b.count, b.order, b.range, b.left, b.discard, b.bg, b.obj⟩ h.on h.ly ?_ h.vblank ?_ ?_ ?_
        h.fetching, hd, hvis⟩
      · have := h.dot; simp; omega
      · intro hx
        obtain ⟨h1, h2⟩ := h.scan hx
        have := hc hx
        exact ⟨by simp; omega, fun sp hsp => by have := h2 sp hsp; simp; omega⟩
      · intro hx; have := h.transfer hx; exact ⟨by simp; omega, this.2⟩
      · intro hx; have := h.blank hx; simp; omega

/-- A dot keeps the PPU's invariant and the framebuffers' form. -/
theorem ppuT_inv {s : State} (h : s.ppu.Inv) (hd : FbOk s.ppu.drawFb) (hvis : FbOk s.ppu.visibleFb) :
    (ppuT s).ppu.Inv ∧ FbOk (ppuT s).ppu.drawFb ∧ FbOk (ppuT s).ppu.visibleFb := by
  unfold ppuT
  split
  · rename_i hon
    obtain ⟨m, hv, hw⟩ := modeDot_mid h hon
    obtain ⟨i, h1, h2⟩ := advanceDot_inv m (hw hd) (hv ▸ hvis)
    rw [lycUpdate_ppu]
    exact ⟨⟨i.ly, i.dot, i.off, i.vblank, i.scan, i.transfer, i.blank, i.spriteCount, i.spriteOrder, i.spriteRange,
      i.fetchLeft, i.fetching, i.discard, i.bgFifo, i.objFifo⟩, h1, h2⟩
  · exact ⟨h, hd, hvis⟩

end Sys2Proof.Machine
end

