-- ==== Sys2Proof/Laws/Invariant.lean ====
section
/-! SUPPORT. Every T-cycle, every CPU-side access and every primitive keeps the invariant of the machine's lists, timer,
DMA engine and PPU. -/

namespace Sys2Proof.Machine

/-- The invariant but for the control latches, which the instructions write. -/
structure State.Body (s : State) : Prop where
  lists : s.ListsWf
  timer : s.timer.Inv
  dma : s.dma.Inv
  ppu : s.ppu.Inv

theorem State.Inv.body {s : State} (h : s.Inv) : s.Body := ⟨h.lists, h.timer, h.dma, h.ppu⟩

/-- What the invariant speaks of, unchanged. -/
theorem State.Body.congr {s t : State} (h : s.Body) (hm : t.mem = s.mem) (hc : t.env.cart = s.env.cart)
    (hb : t.env.bootRom = s.env.bootRom) (hl : t.env.launch = s.env.launch) (ht : t.timer = s.timer) (hd : t.dma = s.dma) (hp : t.ppu = s.ppu) : t.Body where
  lists := by
    have := h.lists
    exact ⟨by rw [hm]; exact this.mem, by rw [hm]; exact this.memRam,
      by rw [hm, hl]; exact this.memZero, by rw [hc]; exact this.cart, by rw [hb]; exact this.bootRom, by rw [hp]; exact this.drawFb, by rw [hp]; exact this.visibleFb⟩
  timer := by rw [ht]; exact h.timer
  dma := by rw [hd]; exact h.dma
  ppu := by rw [hp]; exact h.ppu

/-! ## The timer -/

theorem Timer.edgeCheck_inv (t : Timer) (h : t.reloadCountdown ≤ 4) : t.edgeCheck.Inv := by
  unfold Timer.edgeCheck Timer.increment; dsimp only
  split
  · split <;> exact ⟨rfl, by first | exact h | exact Nat.le_refl 4⟩
  · exact ⟨rfl, h⟩

theorem Timer.window_countdown {t : Timer} (h : t.Inv) : t.window.reloadCountdown ≤ 4 := by
  have := h.countdown
  unfold Timer.window; split
  · exact this
  · simp
  · rename_i k hk; simp; omega

theorem Timer.tick_inv {t : Timer} (h : t.Inv) : t.window.count.Inv :=
  Timer.edgeCheck_inv _ (Timer.window_countdown h)

/-! ## The storage -/

theorem ramWrite_lists {s : State} (h : s.ListsWf) {a : Nat} (ha : isRam a) (v : Byte) : (ramWrite a v s).ListsWf where
  mem := Memory.store_wf h.mem s.env.launch a v
  memZero := Memory.store_zero h.memZero a v
  memRam := fun c hc => by
    rcases Memory.mem_store hc with hc | rfl
    · exact h.memRam c hc
    · exact ha
  cart := h.cart
  bootRom := h.bootRom
  drawFb := h.drawFb
  visibleFb := h.visibleFb

theorem takeDraw_body {s : State} (h : s.Body) : (takeDraw s).Body := h.congr rfl rfl rfl rfl rfl rfl rfl

/-! ## The agents -/

theorem timerT_body {s : State} (h : s.Body) : (timerT s).Body := by
  have e := (timerT_keeps s).1
  rw [e]
  exact ⟨⟨h.lists.mem, h.lists.memRam, h.lists.memZero, h.lists.cart, h.lists.bootRom, h.lists.drawFb, h.lists.visibleFb⟩,
    Timer.tick_inv h.timer, h.dma, h.ppu⟩

theorem dmaT_body {s : State} (h : s.Body) : (dmaT s).Body := by
  refine ⟨?_, by rw [(dmaT_only s).timer]; exact h.timer, dmaT_inv h.dma, by rw [(dmaT_only s).ppu]; exact h.ppu⟩
  unfold dmaT
  split
  · rename_i ha
    have hi := h.dma.running ha
    split
    · rw [dmaCopy_eq]
      have hr : isRam (0xFE00 + s.dma.index) := by unfold isRam; omega
      have hs : (afterDmaRead s.dma.source s).ListsWf := by
        rcases afterDmaRead_keeps s.dma.source s with e | e <;> rw [e]
        · exact h.lists
        · exact (takeDraw_body h).lists
      have hw := ramWrite_lists hs hr (dmaRead s s.dma.source)
      exact ⟨hw.mem, hw.memRam, hw.memZero, hw.cart, hw.bootRom, hw.drawFb, hw.visibleFb⟩
    · exact ⟨h.lists.mem, h.lists.memRam, h.lists.memZero, h.lists.cart, h.lists.bootRom, h.lists.drawFb, h.lists.visibleFb⟩
  · exact h.lists

theorem ppuT_body {s : State} (h : s.Body) : (ppuT s).Body := by
  have o := ppuT_only s
  obtain ⟨hp, hd, hv⟩ := ppuT_inv h.ppu h.lists.drawFb h.lists.visibleFb
  exact ⟨⟨by rw [o.mem]; exact h.lists.mem, by rw [o.mem]; exact h.lists.memRam,
    by rw [o.mem, o.env]; exact h.lists.memZero, by rw [o.env]; exact h.lists.cart, by rw [o.env]; exact h.lists.bootRom, hd, hv⟩, by rw [o.timer]; exact h.timer, by rw [o.dma]; exact h.dma, hp⟩

theorem collaboratorsT_body {s : State} (h : s.Body) : (collaboratorsT s).Body := by
  have o := collaboratorsT_only s
  exact h.congr o.mem (by rw [o.env]) (by rw [o.env]) (by rw [o.env]) o.timer o.dma o.ppu

theorem tickT_body {s : State} (h : s.Body) : (tickT s).Body :=
  collaboratorsT_body (ppuT_body (dmaT_body (timerT_body h)))

theorem mcycle_body {s : State} (h : s.Body) : (mcycle s).Body :=
  (tickT_body (tickT_body (tickT_body (tickT_body h)))).congr rfl rfl rfl rfl rfl rfl rfl

/-! ## CPU-side accesses -/

theorem afterCpuRead_body {s : State} (h : s.Body) (a : Word) : (afterCpuRead a s).Body := by
  rcases afterCpuRead_keeps a s with e | e <;> rw [e]
  · exact h
  · exact takeDraw_body h

theorem Ppu.turnOff_inv (p : Ppu) (hd : p.discard ≤ 7) (hl : p.lcdOn = false) : p.turnOff.Inv := by
  constructor <;> first | exact fun _ => ⟨rfl, rfl, rfl, rfl⟩ | simp_all [Ppu.turnOff, Ppu.lcdOn]

theorem Ppu.turnOn_inv {p : Ppu} (h : p.Inv) (hoff : p.lcdOn = false) {v : Byte} (hv : v.getLsbD 7 = true) :
    (Ppu.turnOn { p with lcdc := v }).Inv := by
  have ho := h.off hoff
  constructor <;> simp_all [Ppu.turnOn, Ppu.lcdOn, h.fetchLeft, h.discard, h.bgFifo, h.objFifo]

/-- The PPU's invariant reads only its own state and LCDC bit 7. -/
theorem Ppu.Inv.congr {p q : Ppu} (h : p.Inv) (hon : q.lcdOn = p.lcdOn)
    (e : q = { q with
      mode := p.mode, ly := p.ly, dot := p.dot, lx := p.lx, sprites := p.sprites, spriteFetchLeft := p.spriteFetchLeft,
      fetching := p.fetching, discard := p.discard, bgFifo := p.bgFifo, objFifo := p.objFifo }) : q.Inv := by
  have h' := h
  constructor
  · rw [e]; exact h.ly
  · rw [e]; exact h.dot
  · rw [hon]; intro hx; rw [e]; exact h.off hx
  · rw [hon]; intro hx; rw [e]; exact h.vblank hx
  · rw [e]; exact h.scan
  · rw [e]; exact h.transfer
  · rw [hon]; intro hx; rw [e]; exact h.blank hx
  · rw [e]; exact h.spriteCount
  · rw [e]; exact h.spriteOrder
  · rw [e]; exact h.spriteRange
  · rw [e]; exact h.fetchLeft
  · rw [e]; exact h.fetching
  · rw [e]; exact h.discard
  · rw [e]; exact h.bgFifo
  · rw [e]; exact h.objFifo

theorem State.Body.setPpu {s : State} (h : s.Body) {q : Ppu} (hq : q.Inv)
    (hd : q.drawFb = s.ppu.drawFb) (hv : q.visibleFb = s.ppu.visibleFb) : (s.setPpu q).Body :=
  ⟨⟨h.lists.mem, h.lists.memRam, h.lists.memZero, h.lists.cart, h.lists.bootRom, by
      have := h.lists.drawFb; rw [← hd] at this; exact this, by
      have := h.lists.visibleFb; rw [← hv] at this; exact this⟩, h.timer, h.dma, hq⟩

theorem writeLcdc_body {s : State} (h : s.Body) (v : Byte) : (writeLcdc v s).Body := by
  unfold writeLcdc; dsimp only
  split
  · rename_i hc
    simp only [Bool.and_eq_true, Bool.not_eq_true'] at hc
    have hi := Ppu.turnOff_inv { s.ppu with lcdc := v } h.ppu.discard hc.2
    refine ⟨⟨h.lists.mem, h.lists.memRam, h.lists.memZero, h.lists.cart, h.lists.bootRom, ?_, h.lists.visibleFb⟩, h.timer, h.dma, hi⟩
    exact FbOk.nil
  · split
    · rename_i hc
      simp only [Bool.and_eq_true, Bool.not_eq_true'] at hc
      exact h.setPpu (Ppu.turnOn_inv h.ppu hc.1 hc.2) rfl rfl
    · rename_i h1 h2
      refine h.setPpu (h.ppu.congr ?_ rfl) rfl rfl
      simp only [Ppu.lcdOn] at h1 h2 ⊢
      cases hx : s.ppu.lcdc.getLsbD 7 <;> cases hy : v.getLsbD 7 <;> simp_all

theorem ioWrite_body {s : State} (h : s.Body) (a : Word) (v : Byte) : (ioWrite a v s).Body := by
  have hreg : ∀ q : Ppu, q.lcdc = s.ppu.lcdc → q = { q with
      mode := s.ppu.mode, ly := s.ppu.ly, dot := s.ppu.dot, lx := s.ppu.lx, sprites := s.ppu.sprites,
      spriteFetchLeft := s.ppu.spriteFetchLeft, fetching := s.ppu.fetching, discard := s.ppu.discard,
      bgFifo := s.ppu.bgFifo, objFifo := s.ppu.objFifo } → q.drawFb = s.ppu.drawFb → q.visibleFb = s.ppu.visibleFb →
      (s.setPpu q).Body := fun q hl e hd hv => h.setPpu (h.ppu.congr (Ppu.lcdOn_congr hl) e) hd hv
  have htim : ∀ t : Timer, t.Inv → (s.setTimer t).Body := fun t ht =>
    ⟨⟨h.lists.mem, h.lists.memRam, h.lists.memZero, h.lists.cart, h.lists.bootRom, h.lists.drawFb, h.lists.visibleFb⟩, ht, h.dma, h.ppu⟩
  unfold ioWrite
  cases ioRegOf a <;> simp only
  case joypad => exact h.congr rfl rfl rfl rfl rfl rfl rfl
  case serial => exact h.congr rfl rfl rfl rfl rfl rfl rfl
  case apu => exact h.congr rfl rfl rfl rfl rfl rfl rfl
  case div => exact htim _ (Timer.edgeCheck_inv _ h.timer.countdown)
  case tima => exact htim _ ⟨h.timer.signal, by simp [Timer.writeTima]⟩
  case tma => exact htim _ ⟨h.timer.signal, h.timer.countdown⟩
  case tac => exact htim _ (Timer.edgeCheck_inv _ h.timer.countdown)
  case ifReg => exact h.congr rfl rfl rfl rfl rfl rfl rfl
  case lcdc => exact writeLcdc_body h v
  case ly => exact h
  case unclaimed => exact h
  case boot => exact h.congr rfl rfl rfl rfl rfl rfl rfl
  case dma =>
    exact ⟨⟨h.lists.mem, h.lists.memRam, h.lists.memZero, h.lists.cart, h.lists.bootRom, h.lists.drawFb, h.lists.visibleFb⟩, h.timer,
      dmaStart_inv v, h.ppu⟩
  all_goals exact hreg _ rfl rfl rfl rfl

theorem regionOf_ram {a : Word} (h : regionOf a = .vram ∨ regionOf a = .wram ∨ regionOf a = .oam ∨ regionOf a = .hram) :
    isRam a.toNat := by
  unfold regionOf at h
  unfold isRam
  split_ifs at h <;> simp at h <;> omega

theorem regionOf_echo {a : Word} (h : regionOf a = .echo) : isRam (a.toNat - 0x2000) := by
  unfold regionOf at h
  unfold isRam
  split_ifs at h
  omega

theorem ramWrite_body {s : State} (h : s.Body) {a : Nat} (ha : isRam a) (v : Byte) : (ramWrite a v s).Body :=
  ⟨ramWrite_lists h.lists ha v, h.timer, h.dma, h.ppu⟩

theorem busWrite_body {s : State} (h : s.Body) (a : Word) (v : Byte) : (busWrite a v s).Body := by
  have hcart : (s.setEnv (s.env.cartWrite a v)).Body :=
    ⟨⟨h.lists.mem, h.lists.memRam, h.lists.memZero, Memory.filter_wf h.lists.cart _, h.lists.bootRom, h.lists.drawFb,
      h.lists.visibleFb⟩, h.timer, h.dma, h.ppu⟩
  unfold busWrite
  cases e : regionOf a <;> simp only
  case rom => exact hcart
  case extRam => exact hcart
  case io => exact ioWrite_body h a v
  case prohibited => exact h
  case ie => exact h.congr rfl rfl rfl rfl rfl rfl rfl
  case echo => exact ramWrite_body h (regionOf_echo e) v
  all_goals exact ramWrite_body h (regionOf_ram (by simp [e])) v

theorem cpuWrite_body {s : State} (h : s.Body) (a : Word) (v : Byte) : (cpuWrite a v s).Body := by
  unfold cpuWrite; split
  · exact h
  · exact busWrite_body h a v

/-! ## The primitives -/

theorem internal_body {s : State} (h : s.Body) : (internal s).Body := mcycle_body h
theorem memRead_body {s : State} (h : s.Body) (a : Word) : (memRead a s).Body := mcycle_body (afterCpuRead_body h a)
theorem memWrite_body {s : State} (h : s.Body) (a : Word) (v : Byte) : (memWrite a v s).Body :=
  mcycle_body (cpuWrite_body h a v)

/-- The CPU's own registers, latches and cycle counter, and IF, do not touch the invariant's body. -/
theorem State.Body.of_cpu {s t : State} (h : s.Body)
    (e : t = { s with regs := t.regs, latch := t.latch, cycles := t.cycles, ifReg := t.ifReg }) : t.Body := by
  rw [e]; exact h.congr rfl rfl rfl rfl rfl rfl rfl

theorem fetch_body {s : State} (h : s.Body) : (fetch s).Body := by
  unfold fetch; dsimp only
  split <;> exact (memRead_body h _).of_cpu rfl
theorem imm8_body {s : State} (h : s.Body) : (imm8 s).Body := (memRead_body h s.regs.pc).of_cpu rfl
theorem pushByte_body {s : State} (h : s.Body) (v : Byte) : (pushByte v s).Body :=
  memWrite_body (s := s.setSp (s.regs.sp - 1)) (h.of_cpu rfl) _ v
theorem push16_body {s : State} (h : s.Body) (v : Word) : (push16 v s).Body := pushByte_body (pushByte_body h _) _
theorem popByte_body {s : State} (h : s.Body) : (popByte s).Body := (memRead_body h s.regs.sp).of_cpu rfl
theorem pop16_body {s : State} (h : s.Body) : (pop16 s).Body := popByte_body (popByte_body h)

end Sys2Proof.Machine
end

