-- ==== Sys2Proof/Laws/Operations.lean ====
section
/-! SUPPORT. One lemma per shared operation of the families: the registers it leaves, the M-cycles it takes, the addresses
it stores to, and that it stays within the frames and keeps the invariant. -/

namespace Sys2Proof.Machine

/-- From `s` to `t` the CPU took `n` M-cycles, stored at most to `stored`, left the registers `regs`, and stayed within
the frames and the invariant. -/
structure Does (stored : List Word) (n : Nat) (regs : Regs) (s t : State) : Prop where
  regs : t.regs = regs
  cycles : t.cycles = s.cycles + BitVec.ofNat 64 (4 * n)
  latch : LatchFrame s t
  memory : s.dma.Inv → MemoryFrame stored s t
  dma : s.dma.Inv → t.dma.Inv
  body : s.Body → t.Body

theorem Does.refl (s : State) : Does [] 0 s.regs s s :=
  ⟨rfl, by simp, LatchFrame.refl s, fun _ => MemoryFrame.refl s, id, id⟩

theorem Does.trans {l₁ l₂ : List Word} {n₁ n₂ : Nat} {r₁ r₂ : Regs} {s t u : State} (h₁ : Does l₁ n₁ r₁ s t)
    (h₂ : Does l₂ n₂ r₂ t u) : Does (l₁ ++ l₂) (n₁ + n₂) r₂ s u :=
  ⟨h₂.regs, by rw [h₂.cycles, h₁.cycles, BitVec.add_assoc, ← BitVec.ofNat_add, Nat.mul_add],
    h₁.latch.trans h₂.latch, fun hs => (h₁.memory hs).trans (h₂.memory (h₁.dma hs)), fun hs => h₂.dma (h₁.dma hs),
    fun hs => h₂.body (h₁.body hs)⟩

/-- A change of registers alone. -/
theorem Does.setRegs {l : List Word} {n : Nat} {r : Regs} {s t u : State} (h : Does l n r s t)
    (e : u = { t with regs := u.regs }) : Does l n u.regs s u := by
  refine ⟨rfl, ?_, ?_, fun hs => ?_, fun hs => ?_, fun hs => ?_⟩
  · rw [e]; exact h.cycles
  · exact h.latch.trans (LatchFrame.of_eq (by rw [e]))
  · have h2 : MemoryFrame [] t u := .of_cpu (by rw [e])
    simpa using (h.memory hs).trans h2
  · rw [e]; exact h.dma hs
  · exact (h.body hs).of_cpu (by rw [e])

/-- The same, with the registers named. -/
theorem Does.setRegs' {l : List Word} {n : Nat} {r r' : Regs} {s t u : State} (h : Does l n r s t)
    (e : u = { t with regs := r' }) : Does l n r' s u := by
  subst e; exact h.setRegs (u := { t with regs := r' }) rfl

/-- What was done is a completed instruction. -/
theorem Does.completes {l : List Word} {n : Nat} {r : Regs} {s t : State} (h : Does l n r s t) :
    Completes l n r s (.next t) := ⟨t, rfl, h.regs, h.cycles, h.latch, h.memory⟩

/-! ## Primitives -/

theorem internal_does (s : State) : Does [] 1 s.regs s (internal s) :=
  ⟨internal_regs s, internal_cycles s, internal_latch s, internal_frame, internal_dmaInv, internal_body⟩

theorem memRead_does (a : Word) (s : State) : Does [] 1 s.regs s (memRead a s) :=
  ⟨memRead_regs a s, memRead_cycles a s, memRead_latch a s, fun h => memRead_frame h a, fun h => memRead_dmaInv h a,
    fun h => memRead_body h a⟩

theorem memWrite_does (a : Word) (v : Byte) (s : State) : Does [a] 1 s.regs s (memWrite a v s) :=
  ⟨memWrite_regs a v s, memWrite_cycles a v s, memWrite_latch a v s, fun h => memWrite_frame h a v,
    fun h => memWrite_dmaInv h a v, fun h => memWrite_body h a v⟩

theorem push16_does (v : Word) (s : State) :
    Does [s.regs.sp - 1, s.regs.sp - 2] 2 { s.regs with sp := s.regs.sp - 2 } s (push16 v s) :=
  ⟨push16_regs v s, push16_cycles v s, push16_latch v s, fun h => push16_frame h v, fun h => push16_dmaInv h v,
    fun h => push16_body h v⟩

theorem pop16_does (s : State) : Does [] 2 { s.regs with sp := s.regs.sp + 2 } s (pop16 s) :=
  ⟨pop16_regs s, pop16_cycles s, pop16_latch s, pop16_frame, pop16_dmaInv, pop16_body⟩

/-- A read M-cycle and then a write M-cycle at the same address. -/
theorem readWrite_does (a : Word) (v : Byte) (s : State) : Does [a] 2 s.regs s (memWrite a v (memRead a s)) := by
  have h := (memRead_does a s).trans (memWrite_does a v (memRead a s))
  rw [memRead_regs] at h
  exact h

/-! ## 8-bit loads -/

variable (s : State)

theorem ldRegReg_does (dst src : Reg8) :
    Does [] 0 (s.regs.set8 dst (s.regs.get8 src)) s (ldRegReg dst src s) := (Does.refl s).setRegs' rfl

theorem ldRegImm_does (r : Reg8) (n : Byte) : Does [] 0 (s.regs.set8 r n) s (ldRegImm r n s) :=
  (Does.refl s).setRegs' rfl

theorem ldRegMem_does (r : Reg8) (a : Word) : Does [] 1 (s.regs.set8 r (cpuRead s a)) s (ldRegMem r a s) := by
  have h := (memRead_does a s).setRegs (u := ldRegMem r a s) rfl
  simpa [ldRegMem] using h

theorem ldRegMemHl_does (r : Reg8) :
    Does [] 1 (s.regs.set8 r (cpuRead s s.regs.hl)) s (ldRegMemHl r s) := ldRegMem_does s r _

theorem ldMemHlReg_does (r : Reg8) : Does [s.regs.hl] 1 s.regs s (ldMemHlReg r s) := memWrite_does _ _ s

theorem ldMemHlImm_does (n : Byte) : Does [s.regs.hl] 1 s.regs s (ldMemHlImm n s) := memWrite_does _ _ s

theorem loadA_does (p : Reg16) : Does [] 1 (s.regs.set8 .a (cpuRead s (s.regs.get16 p))) s (loadA p s) :=
  ldRegMem_does s _ _

theorem storeA_does (p : Reg16) : Does [s.regs.get16 p] 1 s.regs s (storeA p s) := memWrite_does _ _ s

theorem ldAbsLoad_does (nn : Word) : Does [] 1 (s.regs.set8 .a (cpuRead s nn)) s (ldAbsLoad nn s) :=
  ldRegMem_does s _ _

theorem ldAbsStore_does (nn : Word) : Does [nn] 1 s.regs s (ldAbsStore nn s) := memWrite_does _ _ s

theorem ldhLoadC_does : Does [] 1 (s.regs.set8 .a (cpuRead s (highPage s.regs.c))) s (ldhLoadC s) :=
  ldRegMem_does s _ _

theorem ldhStoreC_does : Does [highPage s.regs.c] 1 s.regs s (ldhStoreC s) := memWrite_does _ _ s

theorem ldhLoadImm_does (n : Byte) : Does [] 1 (s.regs.set8 .a (cpuRead s (highPage n))) s (ldhLoadImm n s) :=
  ldRegMem_does s _ _

theorem ldhStoreImm_does (n : Byte) : Does [highPage n] 1 s.regs s (ldhStoreImm n s) := memWrite_does _ _ s

theorem loadAHl_does (k : Word) :
    Does [] 1 ((s.regs.set8 .a (cpuRead s s.regs.hl)).set16 .hl (s.regs.hl + k)) s (stepHl k (ldRegMemHl .a s)) := by
  have h := (ldRegMemHl_does s .a).setRegs (u := stepHl k (ldRegMemHl .a s)) rfl
  simpa [stepHl, (ldRegMemHl_does s .a).regs, Regs.hl, Regs.set8] using h

theorem storeAHl_does (k : Word) :
    Does [s.regs.hl] 1 (s.regs.set16 .hl (s.regs.hl + k)) s (stepHl k (ldMemHlReg .a s)) := by
  have h := (ldMemHlReg_does s .a).setRegs (u := stepHl k (ldMemHlReg .a s)) rfl
  simpa [stepHl, (ldMemHlReg_does s .a).regs] using h

/-! ## 16-bit loads -/

theorem ldReg16Imm_does (rr : Reg16) (nn : Word) : Does [] 0 (s.regs.set16 rr nn) s (ldReg16Imm rr nn s) :=
  (Does.refl s).setRegs' rfl

theorem ldMemNnSp_does (nn : Word) : Does [nn, nn + 1] 2 s.regs s (ldMemNnSp nn s) := by
  have h := (memWrite_does nn (loByte s.regs.sp) s).trans
    (memWrite_does (nn + 1) (hiByte s.regs.sp) (memWrite nn (loByte s.regs.sp) s))
  rw [memWrite_regs] at h
  simpa [ldMemNnSp] using h

theorem ldSpHl_does : Does [] 1 { s.regs with sp := s.regs.hl } s (ldSpHl s) := by
  have h := (internal_does s).setRegs (u := ldSpHl s) rfl
  simpa [ldSpHl] using h

theorem ldHlSp_does (e : Byte) :
    Does [] 1 { s.regs.set16 .hl (addSpE s.regs.sp e) with f := addSpEFlags s.regs.sp e } s (ldHlSp e s) := by
  have h := (internal_does s).setRegs (u := ldHlSp e s) rfl
  simpa [ldHlSp] using h

theorem push_does (qq : StackReg) :
    Does [s.regs.sp - 1, s.regs.sp - 2] 3 { s.regs with sp := s.regs.sp - 2 } s (push qq s) := by
  have h := (internal_does s).trans (push16_does (s.regs.getStack qq) (internal s))
  rw [internal_regs] at h
  exact h

theorem pop_does (qq : StackReg) :
    Does [] 2 (Regs.setStack { s.regs with sp := s.regs.sp + 2 } qq (popWord s)) s (pop qq s) := by
  have h := (pop16_does s).setRegs (u := pop qq s) rfl
  simpa [pop] using h

/-! ## 8-bit arithmetic and logic -/

/-- The registers an ALU operation leaves (R161 to R184). -/
def aluRegs (op : AluOp) (v : Byte) (r : Regs) : Regs :=
  let o := alu op r.a v r.f.c
  { r with a := if op = .cp then r.a else o.res, f := o.flags }

theorem aluApply_regs (op : AluOp) (v : Byte) : (aluApply op v s).regs = aluRegs op v s.regs := by
  cases op <;> rfl

theorem aluApply_only (op : AluOp) (v : Byte) : aluApply op v s = { s with regs := (aluApply op v s).regs } := by
  cases op <;> rfl

theorem aluReg_does (op : AluOp) (r : Reg8) :
    Does [] 0 (aluRegs op (s.regs.get8 r) s.regs) s (aluReg op r s) := by
  have h := (Does.refl s).setRegs (aluApply_only s op (s.regs.get8 r))
  rwa [aluApply_regs] at h

theorem aluImm_does (op : AluOp) (n : Byte) : Does [] 0 (aluRegs op n s.regs) s (aluImm op n s) := by
  have h := (Does.refl s).setRegs (aluApply_only s op n)
  rwa [aluApply_regs] at h

theorem aluMemHl_does (op : AluOp) :
    Does [] 1 (aluRegs op (cpuRead s s.regs.hl) s.regs) s (aluMemHl op s) := by
  have h := (memRead_does s.regs.hl s).setRegs (aluApply_only (memRead s.regs.hl s) op (cpuRead s s.regs.hl))
  rw [aluApply_regs, memRead_regs] at h
  exact h

theorem setRegOut_does (r : Reg8) (o : AluOut) :
    Does [] 0 { s.regs.set8 r o.res with f := o.flags } s (s.setRegOut r o) := (Does.refl s).setRegs' rfl

theorem modifyMemHl_does (g : Byte → Flags → AluOut) :
    Does [s.regs.hl] 2 { s.regs with f := (g (cpuRead s s.regs.hl) s.regs.f).flags } s (modifyMemHl g s) := by
  have h := (readWrite_does s.regs.hl (g (cpuRead s s.regs.hl) s.regs.f).res s).setRegs (u := modifyMemHl g s) rfl
  simpa [modifyMemHl] using h

theorem setAcc_does (o : AluOut) : Does [] 0 { s.regs with a := o.res, f := o.flags } s (s.setAcc o) :=
  (Does.refl s).setRegs' rfl

theorem cpl_does : Does [] 0 { s.regs with a := ~~~s.regs.a, f := { s.regs.f with n := true, h := true } } s (cpl s) :=
  (Does.refl s).setRegs' rfl

theorem scf_does : Does [] 0 { s.regs with f := { s.regs.f with n := false, h := false, c := true } } s (scf s) :=
  (Does.refl s).setRegs' rfl

theorem ccf_does :
    Does [] 0 { s.regs with f := { s.regs.f with n := false, h := false, c := !s.regs.f.c } } s (ccf s) :=
  (Does.refl s).setRegs' rfl

/-! ## 16-bit arithmetic -/

theorem addHl_does (rr : Reg16) :
    Does [] 1 { s.regs.set16 .hl (s.regs.hl + s.regs.get16 rr) with
      f := addHlFlags s.regs.hl (s.regs.get16 rr) s.regs.f } s (addHl rr s) := by
  have h := (internal_does s).setRegs (u := addHl rr s) rfl
  simpa [addHl] using h

theorem incReg16_does (rr : Reg16) : Does [] 1 (s.regs.set16 rr (s.regs.get16 rr + 1)) s (incReg16 rr s) := by
  have h := (internal_does s).setRegs (u := incReg16 rr s) rfl
  simpa [incReg16] using h

theorem decReg16_does (rr : Reg16) : Does [] 1 (s.regs.set16 rr (s.regs.get16 rr - 1)) s (decReg16 rr s) := by
  have h := (internal_does s).setRegs (u := decReg16 rr s) rfl
  simpa [decReg16] using h

theorem addSp_does (e : Byte) :
    Does [] 2 { s.regs with sp := addSpE s.regs.sp e, f := addSpEFlags s.regs.sp e } s (addSp e s) := by
  have h := ((internal_does s).trans (internal_does _)).setRegs (u := addSp e s) rfl
  simpa [addSp] using h

/-! ## Bits -/

theorem bitReg_does (b : Oct) (r : Reg8) :
    Does [] 0 { s.regs with f := bitFlags b (s.regs.get8 r) s.regs.f } s (bitReg b r s) := (Does.refl s).setRegs' rfl

theorem bitMemHl_does (b : Oct) :
    Does [] 1 { s.regs with f := bitFlags b (cpuRead s s.regs.hl) s.regs.f } s (bitMemHl b s) := by
  have h := (memRead_does s.regs.hl s).setRegs (u := bitMemHl b s) rfl
  simpa [bitMemHl] using h

theorem resReg_does (b : Oct) (r : Reg8) :
    Does [] 0 (s.regs.set8 r (resByte b (s.regs.get8 r))) s (resReg b r s) := (Does.refl s).setRegs' rfl

theorem setReg_does (b : Oct) (r : Reg8) :
    Does [] 0 (s.regs.set8 r (setByte b (s.regs.get8 r))) s (setReg b r s) := (Does.refl s).setRegs' rfl

theorem resMemHl_does (b : Oct) : Does [s.regs.hl] 2 s.regs s (resMemHl b s) := readWrite_does _ _ s

theorem setMemHl_does (b : Oct) : Does [s.regs.hl] 2 s.regs s (setMemHl b s) := readWrite_does _ _ s

/-! ## Control transfers -/

theorem jp_does (nn : Word) : Does [] 1 { s.regs with pc := nn } s (jp nn s) := by
  have h := (internal_does s).setRegs (u := jp nn s) rfl
  simpa [jp] using h

theorem jpHl_does : Does [] 0 { s.regs with pc := s.regs.hl } s (jpHl s) := (Does.refl s).setRegs' rfl

theorem jr_does (e : Byte) : Does [] 1 { s.regs with pc := s.regs.pc + sext16 e } s (jr e s) := by
  have h := (internal_does s).setRegs (u := jr e s) rfl
  simpa [jr] using h

theorem call_does (nn : Word) :
    Does [s.regs.sp - 1, s.regs.sp - 2] 3 { s.regs with sp := s.regs.sp - 2, pc := nn } s (call nn s) := by
  have h := ((internal_does s).trans (push16_does s.regs.pc (internal s))).setRegs (u := call nn s) rfl
  simp only [internal_regs] at h
  simpa [call] using h

theorem ret_does : Does [] 3 { s.regs with sp := s.regs.sp + 2, pc := popWord s } s (ret s) := by
  have h1 := (pop16_does s).setRegs (u := (pop16 s).setPc (popWord s)) rfl
  have h := h1.trans (internal_does _)
  simpa [ret] using h

end Sys2Proof.Machine
end

