-- ==== Sys2Proof/Tests/Slice0.lean ====
section
/-! SUPPORT. Tests. Expected results come from the spec: the rows of spec/opcode_table.json, the worked examples of the
rules and the vectors of 95_test_vectors.md (V, SV, TV, DV, PV). After them, one witness per statement with hypotheses. -/

namespace Sys2Proof.Tests
open Sys2Proof.Machine

/-! ## Decoding -/

/-- A word, byte by byte, and the instruction it stands for. -/
structure Row where
  bytes : List Byte
  instr : Instr

/-- Every word decodes to its instruction and is used up whole. -/
def Decodes (rows : List Row) : Prop := rows.Forall fun r => decode r.bytes = .ok (r.instr, [])

/-- Opcodes 00 to 3F, from the rows of spec/opcode_table.json, nn = 0x1234, n = e = 0x9C. -/
theorem test_decode_main_00_to_3F :
    Decodes [⟨[0x00], .nop⟩, ⟨[0x01, 0x34, 0x12], .ldBcNn 0x1234⟩, ⟨[0x02], .ldMemBcA⟩, ⟨[0x03], .incBc⟩, ⟨[0x04], .incB⟩,
      ⟨[0x05], .decB⟩, ⟨[0x06, 0x9C], .ldBN 0x9C⟩, ⟨[0x07], .rlca⟩, ⟨[0x08, 0x34, 0x12], .ldMemNnSp 0x1234⟩,
      ⟨[0x09], .addHlBc⟩, ⟨[0x0A], .ldAMemBc⟩, ⟨[0x0B], .decBc⟩, ⟨[0x0C], .incC⟩, ⟨[0x0D], .decC⟩,
      ⟨[0x0E, 0x9C], .ldCN 0x9C⟩, ⟨[0x0F], .rrca⟩] ∧
    Decodes [⟨[0x10, 0x00], .stop⟩, ⟨[0x11, 0x34, 0x12], .ldDeNn 0x1234⟩, ⟨[0x12], .ldMemDeA⟩, ⟨[0x13], .incDe⟩,
      ⟨[0x14], .incD⟩, ⟨[0x15], .decD⟩, ⟨[0x16, 0x9C], .ldDN 0x9C⟩, ⟨[0x17], .rla⟩, ⟨[0x18, 0x9C], .jrE8 0x9C⟩,
      ⟨[0x19], .addHlDe⟩, ⟨[0x1A], .ldAMemDe⟩, ⟨[0x1B], .decDe⟩, ⟨[0x1C], .incE⟩, ⟨[0x1D], .decE⟩,
      ⟨[0x1E, 0x9C], .ldEN 0x9C⟩, ⟨[0x1F], .rra⟩] ∧
    Decodes [⟨[0x20, 0x9C], .jrNzE8 0x9C⟩, ⟨[0x21, 0x34, 0x12], .ldHlNn 0x1234⟩, ⟨[0x22], .ldMemHlIncA⟩, ⟨[0x23], .incHl⟩,
      ⟨[0x24], .incH⟩, ⟨[0x25], .decH⟩, ⟨[0x26, 0x9C], .ldHN 0x9C⟩, ⟨[0x27], .daa⟩, ⟨[0x28, 0x9C], .jrZE8 0x9C⟩,
      ⟨[0x29], .addHlHl⟩, ⟨[0x2A], .ldAMemHlInc⟩, ⟨[0x2B], .decHl⟩, ⟨[0x2C], .incL⟩, ⟨[0x2D], .decL⟩,
      ⟨[0x2E, 0x9C], .ldLN 0x9C⟩, ⟨[0x2F], .cpl⟩] ∧
    Decodes [⟨[0x30, 0x9C], .jrNcE8 0x9C⟩, ⟨[0x31, 0x34, 0x12], .ldSpNn 0x1234⟩, ⟨[0x32], .ldMemHlDecA⟩, ⟨[0x33], .incSp⟩,
      ⟨[0x34], .incMemHl⟩, ⟨[0x35], .decMemHl⟩, ⟨[0x36, 0x9C], .ldMemHlN 0x9C⟩, ⟨[0x37], .scf⟩,
      ⟨[0x38, 0x9C], .jrCE8 0x9C⟩, ⟨[0x39], .addHlSp⟩, ⟨[0x3A], .ldAMemHlDec⟩, ⟨[0x3B], .decSp⟩, ⟨[0x3C], .incA⟩,
      ⟨[0x3D], .decA⟩, ⟨[0x3E, 0x9C], .ldAN 0x9C⟩, ⟨[0x3F], .ccf⟩] := by
  refine ⟨?_, ?_, ?_, ?_⟩
  · repeat refine ⟨rfl, ?_⟩
    rfl
  · repeat refine ⟨rfl, ?_⟩
    rfl
  · repeat refine ⟨rfl, ?_⟩
    rfl
  · repeat refine ⟨rfl, ?_⟩
    rfl

/-- Opcodes 40 to 7F, from the rows of spec/opcode_table.json, nn = 0x1234, n = e = 0x9C. -/
theorem test_decode_main_40_to_7F :
    Decodes [⟨[0x40], .ldBB⟩, ⟨[0x41], .ldBC⟩, ⟨[0x42], .ldBD⟩, ⟨[0x43], .ldBE⟩, ⟨[0x44], .ldBH⟩, ⟨[0x45], .ldBL⟩,
      ⟨[0x46], .ldBMemHl⟩, ⟨[0x47], .ldBA⟩, ⟨[0x48], .ldCB⟩, ⟨[0x49], .ldCC⟩, ⟨[0x4A], .ldCD⟩, ⟨[0x4B], .ldCE⟩,
      ⟨[0x4C], .ldCH⟩, ⟨[0x4D], .ldCL⟩, ⟨[0x4E], .ldCMemHl⟩, ⟨[0x4F], .ldCA⟩] ∧
    Decodes [⟨[0x50], .ldDB⟩, ⟨[0x51], .ldDC⟩, ⟨[0x52], .ldDD⟩, ⟨[0x53], .ldDE⟩, ⟨[0x54], .ldDH⟩, ⟨[0x55], .ldDL⟩,
      ⟨[0x56], .ldDMemHl⟩, ⟨[0x57], .ldDA⟩, ⟨[0x58], .ldEB⟩, ⟨[0x59], .ldEC⟩, ⟨[0x5A], .ldED⟩, ⟨[0x5B], .ldEE⟩,
      ⟨[0x5C], .ldEH⟩, ⟨[0x5D], .ldEL⟩, ⟨[0x5E], .ldEMemHl⟩, ⟨[0x5F], .ldEA⟩] ∧
    Decodes [⟨[0x60], .ldHB⟩, ⟨[0x61], .ldHC⟩, ⟨[0x62], .ldHD⟩, ⟨[0x63], .ldHE⟩, ⟨[0x64], .ldHH⟩, ⟨[0x65], .ldHL⟩,
      ⟨[0x66], .ldHMemHl⟩, ⟨[0x67], .ldHA⟩, ⟨[0x68], .ldLB⟩, ⟨[0x69], .ldLC⟩, ⟨[0x6A], .ldLD⟩, ⟨[0x6B], .ldLE⟩,
      ⟨[0x6C], .ldLH⟩, ⟨[0x6D], .ldLL⟩, ⟨[0x6E], .ldLMemHl⟩, ⟨[0x6F], .ldLA⟩] ∧
    Decodes [⟨[0x70], .ldMemHlB⟩, ⟨[0x71], .ldMemHlC⟩, ⟨[0x72], .ldMemHlD⟩, ⟨[0x73], .ldMemHlE⟩, ⟨[0x74], .ldMemHlH⟩,
      ⟨[0x75], .ldMemHlL⟩, ⟨[0x76], .halt⟩, ⟨[0x77], .ldMemHlA⟩, ⟨[0x78], .ldAB⟩, ⟨[0x79], .ldAC⟩, ⟨[0x7A], .ldAD⟩,
      ⟨[0x7B], .ldAE⟩, ⟨[0x7C], .ldAH⟩, ⟨[0x7D], .ldAL⟩, ⟨[0x7E], .ldAMemHl⟩, ⟨[0x7F], .ldAA⟩] := by
  refine ⟨?_, ?_, ?_, ?_⟩
  · repeat refine ⟨rfl, ?_⟩
    rfl
  · repeat refine ⟨rfl, ?_⟩
    rfl
  · repeat refine ⟨rfl, ?_⟩
    rfl
  · repeat refine ⟨rfl, ?_⟩
    rfl

/-- Opcodes 80 to BF, from the rows of spec/opcode_table.json, nn = 0x1234, n = e = 0x9C. -/
theorem test_decode_main_80_to_BF :
    Decodes [⟨[0x80], .addAB⟩, ⟨[0x81], .addAC⟩, ⟨[0x82], .addAD⟩, ⟨[0x83], .addAE⟩, ⟨[0x84], .addAH⟩, ⟨[0x85], .addAL⟩,
      ⟨[0x86], .addAMemHl⟩, ⟨[0x87], .addAA⟩, ⟨[0x88], .adcAB⟩, ⟨[0x89], .adcAC⟩, ⟨[0x8A], .adcAD⟩, ⟨[0x8B], .adcAE⟩,
      ⟨[0x8C], .adcAH⟩, ⟨[0x8D], .adcAL⟩, ⟨[0x8E], .adcAMemHl⟩, ⟨[0x8F], .adcAA⟩] ∧
    Decodes [⟨[0x90], .subB⟩, ⟨[0x91], .subC⟩, ⟨[0x92], .subD⟩, ⟨[0x93], .subE⟩, ⟨[0x94], .subH⟩, ⟨[0x95], .subL⟩,
      ⟨[0x96], .subMemHl⟩, ⟨[0x97], .subA⟩, ⟨[0x98], .sbcAB⟩, ⟨[0x99], .sbcAC⟩, ⟨[0x9A], .sbcAD⟩, ⟨[0x9B], .sbcAE⟩,
      ⟨[0x9C], .sbcAH⟩, ⟨[0x9D], .sbcAL⟩, ⟨[0x9E], .sbcAMemHl⟩, ⟨[0x9F], .sbcAA⟩] ∧
    Decodes [⟨[0xA0], .andB⟩, ⟨[0xA1], .andC⟩, ⟨[0xA2], .andD⟩, ⟨[0xA3], .andE⟩, ⟨[0xA4], .andH⟩, ⟨[0xA5], .andL⟩,
      ⟨[0xA6], .andMemHl⟩, ⟨[0xA7], .andA⟩, ⟨[0xA8], .xorB⟩, ⟨[0xA9], .xorC⟩, ⟨[0xAA], .xorD⟩, ⟨[0xAB], .xorE⟩,
      ⟨[0xAC], .xorH⟩, ⟨[0xAD], .xorL⟩, ⟨[0xAE], .xorMemHl⟩, ⟨[0xAF], .xorA⟩] ∧
    Decodes [⟨[0xB0], .orB⟩, ⟨[0xB1], .orC⟩, ⟨[0xB2], .orD⟩, ⟨[0xB3], .orE⟩, ⟨[0xB4], .orH⟩, ⟨[0xB5], .orL⟩,
      ⟨[0xB6], .orMemHl⟩, ⟨[0xB7], .orA⟩, ⟨[0xB8], .cpB⟩, ⟨[0xB9], .cpC⟩, ⟨[0xBA], .cpD⟩, ⟨[0xBB], .cpE⟩,
      ⟨[0xBC], .cpH⟩, ⟨[0xBD], .cpL⟩, ⟨[0xBE], .cpMemHl⟩, ⟨[0xBF], .cpA⟩] := by
  refine ⟨?_, ?_, ?_, ?_⟩
  · repeat refine ⟨rfl, ?_⟩
    rfl
  · repeat refine ⟨rfl, ?_⟩
    rfl
  · repeat refine ⟨rfl, ?_⟩
    rfl
  · repeat refine ⟨rfl, ?_⟩
    rfl

/-- Opcodes C0 to FF, from the rows of spec/opcode_table.json, nn = 0x1234, n = e = 0x9C. -/
theorem test_decode_main_C0_to_FF :
    Decodes [⟨[0xC0], .retNz⟩, ⟨[0xC1], .popBc⟩, ⟨[0xC2, 0x34, 0x12], .jpNzNn 0x1234⟩, ⟨[0xC3, 0x34, 0x12], .jpNn 0x1234⟩,
      ⟨[0xC4, 0x34, 0x12], .callNzNn 0x1234⟩, ⟨[0xC5], .pushBc⟩, ⟨[0xC6, 0x9C], .addAN 0x9C⟩, ⟨[0xC7], .rst00⟩,
      ⟨[0xC8], .retZ⟩, ⟨[0xC9], .ret⟩, ⟨[0xCA, 0x34, 0x12], .jpZNn 0x1234⟩, ⟨[0xCC, 0x34, 0x12], .callZNn 0x1234⟩,
      ⟨[0xCD, 0x34, 0x12], .callNn 0x1234⟩, ⟨[0xCE, 0x9C], .adcAN 0x9C⟩, ⟨[0xCF], .rst08⟩, ⟨[0xD0], .retNc⟩] ∧
    Decodes [⟨[0xD1], .popDe⟩, ⟨[0xD2, 0x34, 0x12], .jpNcNn 0x1234⟩, ⟨[0xD3], .undefinedD3⟩,
      ⟨[0xD4, 0x34, 0x12], .callNcNn 0x1234⟩, ⟨[0xD5], .pushDe⟩, ⟨[0xD6, 0x9C], .subN 0x9C⟩, ⟨[0xD7], .rst10⟩,
      ⟨[0xD8], .retC⟩, ⟨[0xD9], .reti⟩, ⟨[0xDA, 0x34, 0x12], .jpCNn 0x1234⟩, ⟨[0xDB], .undefinedDB⟩,
      ⟨[0xDC, 0x34, 0x12], .callCNn 0x1234⟩, ⟨[0xDD], .undefinedDD⟩, ⟨[0xDE, 0x9C], .sbcAN 0x9C⟩, ⟨[0xDF], .rst18⟩,
      ⟨[0xE0, 0x9C], .ldhMemNA 0x9C⟩] ∧
    Decodes [⟨[0xE1], .popHl⟩, ⟨[0xE2], .ldhMemCA⟩, ⟨[0xE3], .undefinedE3⟩, ⟨[0xE4], .undefinedE4⟩, ⟨[0xE5], .pushHl⟩,
      ⟨[0xE6, 0x9C], .andN 0x9C⟩, ⟨[0xE7], .rst20⟩, ⟨[0xE8, 0x9C], .addSpE8 0x9C⟩, ⟨[0xE9], .jpHl⟩,
      ⟨[0xEA, 0x34, 0x12], .ldMemNnA 0x1234⟩, ⟨[0xEB], .undefinedEB⟩, ⟨[0xEC], .undefinedEC⟩, ⟨[0xED], .undefinedED⟩,
      ⟨[0xEE, 0x9C], .xorN 0x9C⟩, ⟨[0xEF], .rst28⟩, ⟨[0xF0, 0x9C], .ldhAMemN 0x9C⟩] ∧
    Decodes [⟨[0xF1], .popAf⟩, ⟨[0xF2], .ldhAMemC⟩, ⟨[0xF3], .di⟩, ⟨[0xF4], .undefinedF4⟩, ⟨[0xF5], .pushAf⟩,
      ⟨[0xF6, 0x9C], .orN 0x9C⟩, ⟨[0xF7], .rst30⟩, ⟨[0xF8, 0x9C], .ldHlSpE8 0x9C⟩, ⟨[0xF9], .ldSpHl⟩,
      ⟨[0xFA, 0x34, 0x12], .ldAMemNn 0x1234⟩, ⟨[0xFB], .ei⟩, ⟨[0xFC], .undefinedFC⟩, ⟨[0xFD], .undefinedFD⟩,
      ⟨[0xFE, 0x9C], .cpN 0x9C⟩, ⟨[0xFF], .rst38⟩] := by
  refine ⟨?_, ?_, ?_, ?_⟩
  · repeat refine ⟨rfl, ?_⟩
    rfl
  · repeat refine ⟨rfl, ?_⟩
    rfl
  · repeat refine ⟨rfl, ?_⟩
    rfl
  · repeat refine ⟨rfl, ?_⟩
    rfl

/-- CB opcodes 00 to 3F, from the CB rows of spec/opcode_table.json. -/
theorem test_decode_cb_00_to_3F :
    Decodes [⟨[0xCB, 0x00], .rlcB⟩, ⟨[0xCB, 0x01], .rlcC⟩, ⟨[0xCB, 0x02], .rlcD⟩, ⟨[0xCB, 0x03], .rlcE⟩,
      ⟨[0xCB, 0x04], .rlcH⟩, ⟨[0xCB, 0x05], .rlcL⟩, ⟨[0xCB, 0x06], .rlcMemHl⟩, ⟨[0xCB, 0x07], .rlcA⟩,
      ⟨[0xCB, 0x08], .rrcB⟩, ⟨[0xCB, 0x09], .rrcC⟩, ⟨[0xCB, 0x0A], .rrcD⟩, ⟨[0xCB, 0x0B], .rrcE⟩,
      ⟨[0xCB, 0x0C], .rrcH⟩, ⟨[0xCB, 0x0D], .rrcL⟩, ⟨[0xCB, 0x0E], .rrcMemHl⟩, ⟨[0xCB, 0x0F], .rrcA⟩] ∧
    Decodes [⟨[0xCB, 0x10], .rlB⟩, ⟨[0xCB, 0x11], .rlC⟩, ⟨[0xCB, 0x12], .rlD⟩, ⟨[0xCB, 0x13], .rlE⟩, ⟨[0xCB, 0x14], .rlH⟩,
      ⟨[0xCB, 0x15], .rlL⟩, ⟨[0xCB, 0x16], .rlMemHl⟩, ⟨[0xCB, 0x17], .rlA⟩, ⟨[0xCB, 0x18], .rrB⟩,
      ⟨[0xCB, 0x19], .rrC⟩, ⟨[0xCB, 0x1A], .rrD⟩, ⟨[0xCB, 0x1B], .rrE⟩, ⟨[0xCB, 0x1C], .rrH⟩, ⟨[0xCB, 0x1D], .rrL⟩,
      ⟨[0xCB, 0x1E], .rrMemHl⟩, ⟨[0xCB, 0x1F], .rrA⟩] ∧
    Decodes [⟨[0xCB, 0x20], .slaB⟩, ⟨[0xCB, 0x21], .slaC⟩, ⟨[0xCB, 0x22], .slaD⟩, ⟨[0xCB, 0x23], .slaE⟩,
      ⟨[0xCB, 0x24], .slaH⟩, ⟨[0xCB, 0x25], .slaL⟩, ⟨[0xCB, 0x26], .slaMemHl⟩, ⟨[0xCB, 0x27], .slaA⟩,
      ⟨[0xCB, 0x28], .sraB⟩, ⟨[0xCB, 0x29], .sraC⟩, ⟨[0xCB, 0x2A], .sraD⟩, ⟨[0xCB, 0x2B], .sraE⟩,
      ⟨[0xCB, 0x2C], .sraH⟩, ⟨[0xCB, 0x2D], .sraL⟩, ⟨[0xCB, 0x2E], .sraMemHl⟩, ⟨[0xCB, 0x2F], .sraA⟩] ∧
    Decodes [⟨[0xCB, 0x30], .swapB⟩, ⟨[0xCB, 0x31], .swapC⟩, ⟨[0xCB, 0x32], .swapD⟩, ⟨[0xCB, 0x33], .swapE⟩,
      ⟨[0xCB, 0x34], .swapH⟩, ⟨[0xCB, 0x35], .swapL⟩, ⟨[0xCB, 0x36], .swapMemHl⟩, ⟨[0xCB, 0x37], .swapA⟩,
      ⟨[0xCB, 0x38], .srlB⟩, ⟨[0xCB, 0x39], .srlC⟩, ⟨[0xCB, 0x3A], .srlD⟩, ⟨[0xCB, 0x3B], .srlE⟩,
      ⟨[0xCB, 0x3C], .srlH⟩, ⟨[0xCB, 0x3D], .srlL⟩, ⟨[0xCB, 0x3E], .srlMemHl⟩, ⟨[0xCB, 0x3F], .srlA⟩] := by
  refine ⟨?_, ?_, ?_, ?_⟩
  · repeat refine ⟨rfl, ?_⟩
    rfl
  · repeat refine ⟨rfl, ?_⟩
    rfl
  · repeat refine ⟨rfl, ?_⟩
    rfl
  · repeat refine ⟨rfl, ?_⟩
    rfl

/-- CB opcodes 40 to 7F, from the CB rows of spec/opcode_table.json. -/
theorem test_decode_cb_40_to_7F :
    Decodes [⟨[0xCB, 0x40], .bit0B⟩, ⟨[0xCB, 0x41], .bit0C⟩, ⟨[0xCB, 0x42], .bit0D⟩, ⟨[0xCB, 0x43], .bit0E⟩,
      ⟨[0xCB, 0x44], .bit0H⟩, ⟨[0xCB, 0x45], .bit0L⟩, ⟨[0xCB, 0x46], .bit0MemHl⟩, ⟨[0xCB, 0x47], .bit0A⟩,
      ⟨[0xCB, 0x48], .bit1B⟩, ⟨[0xCB, 0x49], .bit1C⟩, ⟨[0xCB, 0x4A], .bit1D⟩, ⟨[0xCB, 0x4B], .bit1E⟩,
      ⟨[0xCB, 0x4C], .bit1H⟩, ⟨[0xCB, 0x4D], .bit1L⟩, ⟨[0xCB, 0x4E], .bit1MemHl⟩, ⟨[0xCB, 0x4F], .bit1A⟩] ∧
    Decodes [⟨[0xCB, 0x50], .bit2B⟩, ⟨[0xCB, 0x51], .bit2C⟩, ⟨[0xCB, 0x52], .bit2D⟩, ⟨[0xCB, 0x53], .bit2E⟩,
      ⟨[0xCB, 0x54], .bit2H⟩, ⟨[0xCB, 0x55], .bit2L⟩, ⟨[0xCB, 0x56], .bit2MemHl⟩, ⟨[0xCB, 0x57], .bit2A⟩,
      ⟨[0xCB, 0x58], .bit3B⟩, ⟨[0xCB, 0x59], .bit3C⟩, ⟨[0xCB, 0x5A], .bit3D⟩, ⟨[0xCB, 0x5B], .bit3E⟩,
      ⟨[0xCB, 0x5C], .bit3H⟩, ⟨[0xCB, 0x5D], .bit3L⟩, ⟨[0xCB, 0x5E], .bit3MemHl⟩, ⟨[0xCB, 0x5F], .bit3A⟩] ∧
    Decodes [⟨[0xCB, 0x60], .bit4B⟩, ⟨[0xCB, 0x61], .bit4C⟩, ⟨[0xCB, 0x62], .bit4D⟩, ⟨[0xCB, 0x63], .bit4E⟩,
      ⟨[0xCB, 0x64], .bit4H⟩, ⟨[0xCB, 0x65], .bit4L⟩, ⟨[0xCB, 0x66], .bit4MemHl⟩, ⟨[0xCB, 0x67], .bit4A⟩,
      ⟨[0xCB, 0x68], .bit5B⟩, ⟨[0xCB, 0x69], .bit5C⟩, ⟨[0xCB, 0x6A], .bit5D⟩, ⟨[0xCB, 0x6B], .bit5E⟩,
      ⟨[0xCB, 0x6C], .bit5H⟩, ⟨[0xCB, 0x6D], .bit5L⟩, ⟨[0xCB, 0x6E], .bit5MemHl⟩, ⟨[0xCB, 0x6F], .bit5A⟩] ∧
    Decodes [⟨[0xCB, 0x70], .bit6B⟩, ⟨[0xCB, 0x71], .bit6C⟩, ⟨[0xCB, 0x72], .bit6D⟩, ⟨[0xCB, 0x73], .bit6E⟩,
      ⟨[0xCB, 0x74], .bit6H⟩, ⟨[0xCB, 0x75], .bit6L⟩, ⟨[0xCB, 0x76], .bit6MemHl⟩, ⟨[0xCB, 0x77], .bit6A⟩,
      ⟨[0xCB, 0x78], .bit7B⟩, ⟨[0xCB, 0x79], .bit7C⟩, ⟨[0xCB, 0x7A], .bit7D⟩, ⟨[0xCB, 0x7B], .bit7E⟩,
      ⟨[0xCB, 0x7C], .bit7H⟩, ⟨[0xCB, 0x7D], .bit7L⟩, ⟨[0xCB, 0x7E], .bit7MemHl⟩, ⟨[0xCB, 0x7F], .bit7A⟩] := by
  refine ⟨?_, ?_, ?_, ?_⟩
  · repeat refine ⟨rfl, ?_⟩
    rfl
  · repeat refine ⟨rfl, ?_⟩
    rfl
  · repeat refine ⟨rfl, ?_⟩
    rfl
  · repeat refine ⟨rfl, ?_⟩
    rfl

/-- CB opcodes 80 to BF, from the CB rows of spec/opcode_table.json. -/
theorem test_decode_cb_80_to_BF :
    Decodes [⟨[0xCB, 0x80], .res0B⟩, ⟨[0xCB, 0x81], .res0C⟩, ⟨[0xCB, 0x82], .res0D⟩, ⟨[0xCB, 0x83], .res0E⟩,
      ⟨[0xCB, 0x84], .res0H⟩, ⟨[0xCB, 0x85], .res0L⟩, ⟨[0xCB, 0x86], .res0MemHl⟩, ⟨[0xCB, 0x87], .res0A⟩,
      ⟨[0xCB, 0x88], .res1B⟩, ⟨[0xCB, 0x89], .res1C⟩, ⟨[0xCB, 0x8A], .res1D⟩, ⟨[0xCB, 0x8B], .res1E⟩,
      ⟨[0xCB, 0x8C], .res1H⟩, ⟨[0xCB, 0x8D], .res1L⟩, ⟨[0xCB, 0x8E], .res1MemHl⟩, ⟨[0xCB, 0x8F], .res1A⟩] ∧
    Decodes [⟨[0xCB, 0x90], .res2B⟩, ⟨[0xCB, 0x91], .res2C⟩, ⟨[0xCB, 0x92], .res2D⟩, ⟨[0xCB, 0x93], .res2E⟩,
      ⟨[0xCB, 0x94], .res2H⟩, ⟨[0xCB, 0x95], .res2L⟩, ⟨[0xCB, 0x96], .res2MemHl⟩, ⟨[0xCB, 0x97], .res2A⟩,
      ⟨[0xCB, 0x98], .res3B⟩, ⟨[0xCB, 0x99], .res3C⟩, ⟨[0xCB, 0x9A], .res3D⟩, ⟨[0xCB, 0x9B], .res3E⟩,
      ⟨[0xCB, 0x9C], .res3H⟩, ⟨[0xCB, 0x9D], .res3L⟩, ⟨[0xCB, 0x9E], .res3MemHl⟩, ⟨[0xCB, 0x9F], .res3A⟩] ∧
    Decodes [⟨[0xCB, 0xA0], .res4B⟩, ⟨[0xCB, 0xA1], .res4C⟩, ⟨[0xCB, 0xA2], .res4D⟩, ⟨[0xCB, 0xA3], .res4E⟩,
      ⟨[0xCB, 0xA4], .res4H⟩, ⟨[0xCB, 0xA5], .res4L⟩, ⟨[0xCB, 0xA6], .res4MemHl⟩, ⟨[0xCB, 0xA7], .res4A⟩,
      ⟨[0xCB, 0xA8], .res5B⟩, ⟨[0xCB, 0xA9], .res5C⟩, ⟨[0xCB, 0xAA], .res5D⟩, ⟨[0xCB, 0xAB], .res5E⟩,
      ⟨[0xCB, 0xAC], .res5H⟩, ⟨[0xCB, 0xAD], .res5L⟩, ⟨[0xCB, 0xAE], .res5MemHl⟩, ⟨[0xCB, 0xAF], .res5A⟩] ∧
    Decodes [⟨[0xCB, 0xB0], .res6B⟩, ⟨[0xCB, 0xB1], .res6C⟩, ⟨[0xCB, 0xB2], .res6D⟩, ⟨[0xCB, 0xB3], .res6E⟩,
      ⟨[0xCB, 0xB4], .res6H⟩, ⟨[0xCB, 0xB5], .res6L⟩, ⟨[0xCB, 0xB6], .res6MemHl⟩, ⟨[0xCB, 0xB7], .res6A⟩,
      ⟨[0xCB, 0xB8], .res7B⟩, ⟨[0xCB, 0xB9], .res7C⟩, ⟨[0xCB, 0xBA], .res7D⟩, ⟨[0xCB, 0xBB], .res7E⟩,
      ⟨[0xCB, 0xBC], .res7H⟩, ⟨[0xCB, 0xBD], .res7L⟩, ⟨[0xCB, 0xBE], .res7MemHl⟩, ⟨[0xCB, 0xBF], .res7A⟩] := by
  refine ⟨?_, ?_, ?_, ?_⟩
  · repeat refine ⟨rfl, ?_⟩
    rfl
  · repeat refine ⟨rfl, ?_⟩
    rfl
  · repeat refine ⟨rfl, ?_⟩
    rfl
  · repeat refine ⟨rfl, ?_⟩
    rfl

/-- CB opcodes C0 to FF, from the CB rows of spec/opcode_table.json. -/
theorem test_decode_cb_C0_to_FF :
    Decodes [⟨[0xCB, 0xC0], .set0B⟩, ⟨[0xCB, 0xC1], .set0C⟩, ⟨[0xCB, 0xC2], .set0D⟩, ⟨[0xCB, 0xC3], .set0E⟩,
      ⟨[0xCB, 0xC4], .set0H⟩, ⟨[0xCB, 0xC5], .set0L⟩, ⟨[0xCB, 0xC6], .set0MemHl⟩, ⟨[0xCB, 0xC7], .set0A⟩,
      ⟨[0xCB, 0xC8], .set1B⟩, ⟨[0xCB, 0xC9], .set1C⟩, ⟨[0xCB, 0xCA], .set1D⟩, ⟨[0xCB, 0xCB], .set1E⟩,
      ⟨[0xCB, 0xCC], .set1H⟩, ⟨[0xCB, 0xCD], .set1L⟩, ⟨[0xCB, 0xCE], .set1MemHl⟩, ⟨[0xCB, 0xCF], .set1A⟩] ∧
    Decodes [⟨[0xCB, 0xD0], .set2B⟩, ⟨[0xCB, 0xD1], .set2C⟩, ⟨[0xCB, 0xD2], .set2D⟩, ⟨[0xCB, 0xD3], .set2E⟩,
      ⟨[0xCB, 0xD4], .set2H⟩, ⟨[0xCB, 0xD5], .set2L⟩, ⟨[0xCB, 0xD6], .set2MemHl⟩, ⟨[0xCB, 0xD7], .set2A⟩,
      ⟨[0xCB, 0xD8], .set3B⟩, ⟨[0xCB, 0xD9], .set3C⟩, ⟨[0xCB, 0xDA], .set3D⟩, ⟨[0xCB, 0xDB], .set3E⟩,
      ⟨[0xCB, 0xDC], .set3H⟩, ⟨[0xCB, 0xDD], .set3L⟩, ⟨[0xCB, 0xDE], .set3MemHl⟩, ⟨[0xCB, 0xDF], .set3A⟩] ∧
    Decodes [⟨[0xCB, 0xE0], .set4B⟩, ⟨[0xCB, 0xE1], .set4C⟩, ⟨[0xCB, 0xE2], .set4D⟩, ⟨[0xCB, 0xE3], .set4E⟩,
      ⟨[0xCB, 0xE4], .set4H⟩, ⟨[0xCB, 0xE5], .set4L⟩, ⟨[0xCB, 0xE6], .set4MemHl⟩, ⟨[0xCB, 0xE7], .set4A⟩,
      ⟨[0xCB, 0xE8], .set5B⟩, ⟨[0xCB, 0xE9], .set5C⟩, ⟨[0xCB, 0xEA], .set5D⟩, ⟨[0xCB, 0xEB], .set5E⟩,
      ⟨[0xCB, 0xEC], .set5H⟩, ⟨[0xCB, 0xED], .set5L⟩, ⟨[0xCB, 0xEE], .set5MemHl⟩, ⟨[0xCB, 0xEF], .set5A⟩] ∧
    Decodes [⟨[0xCB, 0xF0], .set6B⟩, ⟨[0xCB, 0xF1], .set6C⟩, ⟨[0xCB, 0xF2], .set6D⟩, ⟨[0xCB, 0xF3], .set6E⟩,
      ⟨[0xCB, 0xF4], .set6H⟩, ⟨[0xCB, 0xF5], .set6L⟩, ⟨[0xCB, 0xF6], .set6MemHl⟩, ⟨[0xCB, 0xF7], .set6A⟩,
      ⟨[0xCB, 0xF8], .set7B⟩, ⟨[0xCB, 0xF9], .set7C⟩, ⟨[0xCB, 0xFA], .set7D⟩, ⟨[0xCB, 0xFB], .set7E⟩,
      ⟨[0xCB, 0xFC], .set7H⟩, ⟨[0xCB, 0xFD], .set7L⟩, ⟨[0xCB, 0xFE], .set7MemHl⟩, ⟨[0xCB, 0xFF], .set7A⟩] := by
  refine ⟨?_, ?_, ?_, ?_⟩
  · repeat refine ⟨rfl, ?_⟩
    rfl
  · repeat refine ⟨rfl, ?_⟩
    rfl
  · repeat refine ⟨rfl, ?_⟩
    rfl
  · repeat refine ⟨rfl, ?_⟩
    rfl

/-- Missing bytes are refused by name. -/
theorem test_decode_truncated :
    decode [] = .error .noBytes ∧ decode [0xCD, 0x00] = .error .truncated ∧ decode [0xCB] = .error .truncated :=
  ⟨rfl, rfl, rfl⟩

/-! ## WellFormed -/

/-- The one check refuses the PREFIX CB row as an instruction of its own (R110). -/
theorem test_wellFormed_refuses_prefix : Instr.wellFormed (.prefixCb 0x37) = false := by decide

theorem test_wellFormed_accepts : Instr.wellFormed .swapA = true ∧ Instr.wellFormed (.jrNzE8 0xFD) = true := by decide

/-! ## A small state: the default start state of 95_test_vectors.md -/

/-- LCD off, timer off, no DMA, every byte 00, SP = DFF0, PC = C000. -/
def quiet : State :=
  { State.resetIn .bootRom with
    bootMapped := false
    regs := { (State.resetIn .bootRom).regs with sp := 0xDFF0, pc := 0xC000 } }

/-- The quiet state with an instruction at C000. -/
def at0 (bs : List Byte) : State := placeBytes 0xC000 bs quiet

/-- The state after one step. -/
def stepped (s : State) : Option State :=
  match step s with
  | .next t => some t
  | .fault _ => none
  | .refused _ => none

/-- A state with a byte in storage. -/
def put (a : Nat) (v : Byte) (s : State) : State := ramWrite a v s

/-- A state with F set from its byte. -/
def withF (v : Byte) (s : State) : State := s.setFlags (Flags.ofByte v)

/-- What most tests look at. -/
def seen (s : State) : Byte × Byte × Word × Word × BitVec 64 :=
  (s.regs.a, s.regs.f.toByte, s.regs.sp, s.regs.pc, s.cycles)

/-! ## One instruction of each kind -/

/-- Loads (V1, V5, V11, V15, V18, V19, V33, V35, V37, V40). -/
theorem test_loads :
    (((stepped ((at0 [0x41]).setReg8 .c 0x5A)).map fun t => (t.regs.b, t.regs.pc, t.cycles)) =
      some (0x5A, 0xC001, 4)) ∧
    (((stepped ((at0 [0x75]).setReg16 .hl 0xC123)).map fun t => (ramRead t 0xC123, t.cycles)) =
      some (0x23, 8)) ∧
    (((stepped (put 0xC234 0x5C (at0 [0xFA, 0x34, 0xC2]))).map seen) =
      some (0x5C, 0x00, 0xDFF0, 0xC003, 16)) ∧
    (((stepped ((at0 [0xF0, 0x0F]).setIf 3)).map seen) =
      some (0xE3, 0x00, 0xDFF0, 0xC002, 12)) ∧
    (((stepped (((at0 [0x32]).setReg8 .a 0x01).setReg16 .hl 0x0000)).map fun t => (t.regs.hl, t.env.outputs)) =
      some (0xFFFF, [.cartWrite 0x0000 0x01])) ∧
    (((stepped { (at0 [0x2A]).setReg16 .hl 0xFFFF with ieReg := 0x1F }).map fun t => (t.regs.a, t.regs.hl)) =
      some (0x1F, 0x0000)) ∧
    (((stepped ((at0 [0x08, 0xFF, 0xFF]).setSp 0x1234)).map fun t => (t.ieReg, t.env.outputs, t.cycles)) =
      some (0x34, [.cartWrite 0x0000 0x12], 20)) ∧
    (((stepped ((at0 [0xC5]).setReg16 .bc 0xBEEF)).map fun t =>
      (t.regs.sp, ramRead t 0xDFEF, ramRead t 0xDFEE, t.cycles)) = some (0xDFEE, 0xBE, 0xEF, 16)) ∧
    (((stepped (put 0xDFF0 0xFF (put 0xDFF1 0x34 (at0 [0xF1])))).map seen) =
      some (0x34, 0xF0, 0xDFF2, 0xC001, 12)) ∧
    (((stepped (withF 0x80 ((at0 [0xF8, 0x01]).setSp 0x00FF))).map fun t =>
      (t.regs.hl, t.regs.f.toByte, t.cycles)) = some (0x0100, 0x30, 12)) := by
  and_intros <;> decide +kernel

/-- Arithmetic (the examples of R161, R165, R172, R184, R186, R189, R201, R203, R204). -/
theorem test_arithmetic :
    (((stepped (((at0 [0x80]).setReg8 .a 0x3A).setReg8 .b 0xC6)).map seen) =
      some (0x00, 0xB0, 0xDFF0, 0xC001, 4)) ∧
    (((stepped (withF 0x10 (put 0xC100 0x0F (((at0 [0x8E]).setReg8 .a 0xE1).setReg16 .hl 0xC100)))).map seen) =
      some (0xF1, 0x20, 0xDFF0, 0xC001, 8)) ∧
    (((stepped (withF 0x10 ((at0 [0xDE, 0x2A]).setReg8 .a 0x3B))).map seen) =
      some (0x10, 0x40, 0xDFF0, 0xC002, 8)) ∧
    (((stepped ((at0 [0xFE, 0x40]).setReg8 .a 0x3C)).map seen) =
      some (0x3C, 0x50, 0xDFF0, 0xC002, 8)) ∧
    (((stepped (withF 0x10 (put 0xC100 0xFF ((at0 [0x34]).setReg16 .hl 0xC100)))).map fun t =>
      (ramRead t 0xC100, t.regs.f.toByte, t.cycles)) = some (0x00, 0xB0, 12)) ∧
    (((stepped ((at0 [0x27]).setReg8 .a 0x3C)).map seen) =
      some (0x42, 0x00, 0xDFF0, 0xC001, 4)) ∧
    (((stepped (withF 0x80 (((at0 [0x09]).setReg16 .hl 0x8A23).setReg16 .bc 0x0605))).map fun t =>
      (t.regs.hl, t.regs.f.toByte, t.cycles)) = some (0x9028, 0xA0, 8)) ∧
    (((stepped (at0 [0x0B])).map fun t => (t.regs.get16 .bc, t.regs.f.toByte, t.cycles)) =
      some (0xFFFF, 0x00, 8)) ∧
    (((stepped ((at0 [0xE8, 0xFE]).setSp 0x0005)).map seen) =
      some (0x00, 0x30, 0x0003, 0xC002, 16)) := by
  and_intros <;> decide +kernel

/-- Rotates, shifts and bits (the examples of R213, R219, R224, R230, R233, and V148). -/
theorem test_rotates_and_bits :
    (((stepped ((at0 [0x1F]).setReg8 .a 0x81)).map seen) =
      some (0x40, 0x10, 0xDFF0, 0xC001, 4)) ∧
    (((stepped (put 0xC100 0x80 ((at0 [0xCB, 0x16]).setReg16 .hl 0xC100))).map fun t =>
      (ramRead t 0xC100, t.regs.f.toByte, t.cycles)) = some (0x00, 0x90, 16)) ∧
    (((stepped ((at0 [0xCB, 0x28]).setReg8 .b 0x8A)).map fun t =>
      (t.regs.b, t.regs.f.toByte, t.cycles)) = some (0xC5, 0x00, 8)) ∧
    (((stepped (withF 0x10 ((at0 [0xCB, 0x7C]).setReg8 .h 0x7F))).map seen) =
      some (0x00, 0xB0, 0xDFF0, 0xC002, 8)) ∧
    (((stepped (((at0 [0xCB, 0x86]).setIf 5).setReg16 .hl 0xFF0F)).map fun t => (t.ifReg, t.cycles)) =
      some (4, 16)) ∧
    (((stepped (at0 [0xCB, 0xCB])).map fun t => (t.regs.e, t.regs.f.toByte)) = some (0x02, 0x00)) := by
  refine ⟨?_, ?_, ?_, ?_, ?_, ?_⟩ <;> decide +kernel

/-- Control transfers (V157, R242's example, V160, V164, V166, V167). -/
theorem test_control :
    (((stepped (at0 [0x18, 0x80])).map seen) = some (0x00, 0x00, 0xDFF0, 0xBF82, 12)) ∧
    (((stepped (at0 [0xCA, 0x00, 0x40])).map seen) =
      some (0x00, 0x00, 0xDFF0, 0xC003, 12)) ∧
    (((stepped (at0 [0xCD, 0x00, 0x20])).map fun t => (seen t, ramRead t 0xDFEF, ramRead t 0xDFEE)) =
      some ((0x00, 0x00, 0xDFEE, 0x2000, 24), 0xC0, 0x03)) ∧
    (((stepped (put 0xDFF0 0x03 (put 0xDFF1 0xC0 (at0 [0xC0])))).map seen) =
      some (0x00, 0x00, 0xDFF2, 0xC003, 20)) ∧
    (((stepped (put 0xDFF0 0x03 (put 0xDFF1 0xC0 (at0 [0xD9])))).map fun t => (seen t, t.latch.ime)) =
      some ((0x00, 0x00, 0xDFF2, 0xC003, 16), true)) ∧
    (((stepped (at0 [0xFF])).map fun t => (seen t, ramRead t 0xDFEE)) =
      some ((0x00, 0x00, 0xDFEE, 0x0038, 16), 0x01)) := by
  refine ⟨?_, ?_, ?_, ?_, ?_, ?_⟩ <;> decide +kernel

/-- HALT with the halt bug (V172), the double fetch (S3), STOP (R262's example), EI (V176), an undefined opcode (V177). -/
theorem test_system :
    (((stepped { (at0 [0x76]).setIf 1 with ieReg := 1 }).map fun t =>
      (t.latch.haltBug, t.latch.halted, t.regs.pc)) = some (true, false, 0xC001)) ∧
    (((stepped ((at0 [0x3C]).setLatch { quiet.latch with haltBug := true })).map fun t => (seen t, t.latch.haltBug)) =
      some ((0x01, 0x00, 0xDFF0, 0xC000, 4), false)) ∧
    (((stepped { at0 [0x10, 0x00] with timer := { quiet.timer with sysCounter := 0x1234 } }).map fun t =>
      (t.regs.pc, t.latch.stopped, t.timer.sysCounter, t.cycles)) = some (0xC002, true, 0x0000, 4)) ∧
    (((stepped (at0 [0xFB])).map fun t => (t.latch.ime, t.latch.imePending)) = some (false, true)) ∧
    (((stepped (at0 [0xD3])).map fun t => (t.latch.locked, t.regs.pc, t.cycles)) =
      some (true, 0xC001, 4)) := by
  refine ⟨?_, ?_, ?_, ?_, ?_⟩ <;> decide +kernel

/-- Service: line 2 wins over lines 3 and 4 (SV2); PC − 1 is pushed where the halt bug is consumed (SV6). -/
theorem test_services :
    (((stepped { ((at0 [0x00]).setIf 0x1C).setLatch { quiet.latch with ime := true } with ieReg := 0x1F }).map fun t =>
      (seen t, t.ifReg, t.latch.ime)) = some ((0x00, 0x00, 0xDFEE, 0x0050, 20), 0x18, false)) ∧
    (((stepped { (at0 [0xFB, 0x76, 0x00]).setIf 1 with
      ieReg := 1
      regs := { quiet.regs with pc := 0xC002 }
      latch := { quiet.latch with ime := true, haltBug := true } }).map fun t =>
      (t.regs.pc, ramRead t 0xDFEF, ramRead t 0xDFEE, t.latch.haltBug)) = some (0x0040, 0xC0, 0x01, false)) := by
  refine ⟨?_, ?_⟩ <;> decide +kernel

/-! ## Timer, DMA, PPU -/

/-- S4: from `sys_counter` = 7 the edge of bit 3 is in T-cycle 9, and the reload in T-cycle 13. -/
def overflowing : State :=
  { quiet with timer :=
      { sysCounter := 0x0007, tima := 0xFF, tma := 0xAB, tac := 5, signalPrev := false, reloadCountdown := 0 } }

theorem test_timer_window :
    ((timerT^[8] overflowing).timer.tima, (timerT^[9] overflowing).timer.tima, (timerT^[12] overflowing).timer.tima,
      (timerT^[13] overflowing).timer.tima, (timerT^[13] overflowing).ifReg) = (0xFF, 0x00, 0x00, 0xAB, 4) := by decide +kernel

/-- DV1's first M-cycle: byte 0 is copied in the M-cycle of the FF46 write. -/
theorem test_dma_first_byte :
    let t := memWrite 0xFF46 0xC0 (put 0xC000 0x77 quiet)
    (ramRead t 0xFE00, t.dma.index, cpuRead t 0x8000, t.dma.reg) = (0x77, 1, 0xFF, 0xC0) := by decide +kernel

/-- LCD on at line 0, dot 0, mode 2. -/
def lit : State := { quiet with ppu := { quiet.ppu with lcdc := 0x91, mode := .oamScan } }

/-- PV3: the dot that makes LY 144 requests line 0 and presents the frame. -/
theorem test_vblank :
    let t := ppuT { lit with ppu := { lit.ppu with ly := 143, dot := 455, mode := .hblank } }
    (t.ppu.ly, t.ppu.dot, t.ppu.mode, t.ifReg, t.env.outputs) = (144, 0, .vblank, 1, [.present []]) := by decide +kernel

/-- PV9: the row lo = 3C, hi = 7E gives the colours 0, 2, 3, 3, 3, 3, 2, 0. -/
theorem test_row_decode : rowPixels 0x3C 0x7E = [0, 2, 3, 3, 3, 3, 2, 0] := by decide +kernel

/-- R391's example: SCY = 10, SCX = 0B, LY = 5 fetches the map byte at 9841 and tile 5's row at 805A. -/
theorem test_background_addresses :
    let p := { lit.ppu with scy := 0x10, scx := 0x0B, ly := 5 }
    (p.mapAddr, p.tileAddr 0x05) = (0x9841, 0x805A) := by decide +kernel

/-- PV12: the LCD turned off at line 50. -/
theorem test_lcd_off :
    let t := busWrite 0xFF40 0x11 { lit with ppu := { lit.ppu with ly := 50, dot := 300, mode := .hblank } }
    (t.ppu.ly, t.ppu.dot, t.ppu.mode, t.ifReg) = (0, 0, .hblank, 0) := by decide +kernel

/-! ## Witnesses: for each statement with hypotheses, a state and operands that meet them -/

theorem witness_DecodeOfEncode : Instr.wellFormed (.callNn 0xD000) = true := rfl

theorem witness_EncodeOfDecode :
    decode [0x10, 0x55, 0x00] = .ok (.stop, [0x00]) ∧ decode [0xCD, 0x34, 0x12] = .ok (.callNn 0x1234, []) :=
  ⟨rfl, rfl⟩

/-- A state that executes an instruction: not locked or stopped, nothing to service, awake or halted with a request. -/
def Executes (s : State) : Prop :=
  s.latch.locked = false ∧ s.latch.stopped = false ∧ (s.latch.halted = true → pending s ≠ 0) ∧ serviceLine s = none

/-- A halted state with a request and IME = 0. -/
def waking (bs : List Byte) : State :=
  { (at0 bs).setIf 1 with ieReg := 1, latch := { quiet.latch with halted := true } }

theorem witness_StepRunsDecoded :
    (Executes (at0 [0x41]) ∧
      decode [pcByte (wake (at0 [0x41])), pcByte (fetch (wake (at0 [0x41]))),
        pcByte (imm8 (fetch (wake (at0 [0x41]))))] = .ok (.ldBC, [0x00, 0x00])) ∧
    (Executes (waking [0xC3, 0x00, 0xD0]) ∧
      decode [pcByte (wake (waking [0xC3, 0x00, 0xD0])), pcByte (fetch (wake (waking [0xC3, 0x00, 0xD0]))),
        pcByte (imm8 (fetch (wake (waking [0xC3, 0x00, 0xD0]))))] = .ok (.jpNn 0xD000, [])) := by
  refine ⟨⟨⟨rfl, rfl, ?_, rfl⟩, ?_⟩, ⟨⟨rfl, rfl, ?_, rfl⟩, ?_⟩⟩ <;> decide +kernel

theorem witness_IdleSteps :
    let locked := quiet.setLatch { quiet.latch with locked := true }
    let halted := quiet.setLatch { quiet.latch with halted := true }
    let stopped := quiet.setLatch { quiet.latch with stopped := true }
    locked.latch.locked = true ∧
    (halted.latch.locked = false ∧ halted.latch.halted = true ∧ pending halted = 0) ∧
    ((waking []).latch.locked = false ∧ (waking []).latch.halted = true ∧ pending (waking []) ≠ 0) ∧
    (stopped.latch.locked = false ∧ stopped.latch.halted = false ∧ stopped.latch.stopped = true) := by decide

theorem witness_LockedForever : (quiet.setLatch { quiet.latch with locked := true }).latch.locked = true := rfl

theorem witness_JoypadEdge :
    (quiet.setEnv { quiet.env with inputs := [(0, .joypadEdge)] }).env.inputs = (0, .joypadEdge) :: [] := rfl

theorem witness_LowestLineSelected :
    lowestLine 0 = none ∧ lowestLine 0x1F = some .vblank ∧ lowestLine 0x10 = some .joypad ∧ 0 < IntLine.bit .joypad := by
  decide

theorem witness_InterruptService :
    let s := { quiet.setIf 0x10 with ieReg := 0x10, latch := { quiet.latch with ime := true } }
    let b := s.setLatch { s.latch with haltBug := true }
    (s.latch.locked = false ∧ s.latch.stopped = false ∧ s.latch.ime = true ∧ lowestLine (pending s) = some .joypad) ∧
    (b.latch.locked = false ∧ b.latch.stopped = false ∧ b.latch.ime = true ∧ lowestLine (pending b) = some .joypad) := by
  decide

theorem witness_EiDelay :
    let p := (at0 [0x00]).setLatch { quiet.latch with imePending := true }
    (Executes p ∧ (∃ t, step p = .next t) ∧ p.latch.imePending = true ∧ fetchedInstr (wake p) ≠ .di) ∧
    (Executes (at0 [0xF3]) ∧ (∃ t, step (at0 [0xF3]) = .next t) ∧ fetchedInstr (wake (at0 [0xF3])) = .di) ∧
    (Executes (at0 [0xFB]) ∧ (∃ t, step (at0 [0xFB]) = .next t) ∧ (at0 [0xFB]).latch.imePending = false ∧
      fetchedInstr (wake (at0 [0xFB])) = .ei) := by
  refine ⟨⟨⟨rfl, rfl, ?_, rfl⟩, ⟨_, rfl⟩, rfl, ?_⟩, ⟨⟨rfl, rfl, ?_, rfl⟩, ⟨_, rfl⟩, rfl⟩,
    ⟨⟨rfl, rfl, ?_, rfl⟩, ⟨_, rfl⟩, rfl, rfl⟩⟩ <;> decide +kernel

theorem witness_InstructionCycles :
    (Executes (at0 [0xC0]) ∧ (∃ t, step (at0 [0xC0]) = .next t)) ∧
    (Executes (at0 [0xCB, 0x46]) ∧ ∃ t, step (at0 [0xCB, 0x46]) = .next t) := by
  refine ⟨⟨⟨rfl, rfl, ?_, rfl⟩, ⟨_, rfl⟩⟩, ⟨⟨rfl, rfl, ?_, rfl⟩, ⟨_, rfl⟩⟩⟩ <;> decide

theorem witness_ByteAluResults : ∃ v, v = cpuRead quiet quiet.regs.hl := ⟨_, rfl⟩

theorem witness_RotateShiftResults : ∃ res, res = shiftResult .rl (cpuRead quiet quiet.regs.hl) true := ⟨_, rfl⟩

theorem witness_HaltResult :
    let s := { quiet.setIf 1 with ieReg := 1 }
    (s.latch.ime = false ∧ s.ieReg.setWidth 5 &&& s.ifReg ≠ 0) ∧
    ¬ (quiet.latch.ime = false ∧ quiet.ieReg.setWidth 5 &&& quiet.ifReg ≠ 0) := by decide

theorem witness_SystemResults : Instr.undefinedFD ∈ [Instr.undefinedD3, .undefinedFD] := by simp

theorem witness_ArithmeticFrames : AluOp.cp = AluOp.cp := rfl

theorem witness_RotateBitFrames : Instr.rra ∈ [Instr.rlca, .rrca, .rla, .rra] := by simp

theorem witness_AluLaw : ∃ op : AluOp, op = .sub ∨ op = .cp := ⟨.cp, .inr rfl⟩

theorem witness_DaaIsDecimal : 0 < 100 ∧ 99 < 100 := by decide

theorem witness_ShiftBits : 0 < 8 ∧ 7 < 8 ∧ ShiftOp.sla ∈ [ShiftOp.rlc, .rl, .sla] ∧
    ShiftOp.srl ∈ [ShiftOp.rrc, .rr, .sra, .srl] := by decide

theorem witness_Conditions : (3#8, Cond.c) ∈ [(0#8, Cond.nz), (1#8, Cond.z), (2#8, Cond.nc), (3#8, Cond.c)] ∧
    Instr.retC ∈ [Instr.jpCond .c 0, Instr.jrCond .c 0, Instr.callCond .c 0, Instr.retCond .c] := by
  constructor <;> simp [Instr.retCond]

/-- Blocked by DMA, by mode 3, by mode 2, and not blocked, at the ends of the ranges. -/
theorem witness_Blocking :
    let d := quiet.setDma { quiet.dma with active := true }
    let m3 := lit.setPpu { lit.ppu with mode := .pixelXfer }
    ((d.dma.active = true ∧ ¬ (0xFF80 ≤ (0xFF7F : Word).toNat ∧ (0xFF7F : Word).toNat ≤ 0xFFFE)) ∧
      (d.dma.active = true ∧ ¬ (0xFF80 ≤ (0xFFFF : Word).toNat ∧ (0xFFFF : Word).toNat ≤ 0xFFFE))) ∧
    (m3.ppu.mode = .pixelXfer ∧ 0x8000 ≤ (0x9FFF : Word).toNat ∧ (0x9FFF : Word).toNat ≤ 0x9FFF) ∧
    (lit.ppu.mode = .oamScan ∧ 0xFE00 ≤ (0xFE9F : Word).toNat ∧ (0xFE9F : Word).toNat ≤ 0xFE9F) ∧
    (quiet.dma.active = false ∧ quiet.ppu.mode = .hblank) := by decide

theorem witness_PlainStorage :
    ∀ a ∈ [0x8000#16, 0x9FFF#16, 0xC000#16, 0xDFFF#16, 0xFE00#16, 0xFE9F#16, 0xFF80#16, 0xFFFE#16], isRam a.toNat := by
  simp [isRam]

theorem witness_EchoRam :
    ∀ a ∈ [0xE000#16, 0xFDFF#16], 0xE000 ≤ a.toNat ∧ a.toNat ≤ 0xFDFF := by simp

theorem witness_ProhibitedRegion :
    ∀ a ∈ [0xFEA0#16, 0xFEFF#16], 0xFEA0 ≤ a.toNat ∧ a.toNat ≤ 0xFEFF := by simp

theorem witness_UnclaimedIo :
    ∀ a ∈ [0xFF03#16, 0xFF08#16, 0xFF0E#16, 0xFF4C#16, 0xFF4F#16, 0xFF51#16, 0xFF7F#16],
      0xFF00 ≤ a.toNat ∧ a.toNat ≤ 0xFF7F ∧
      ¬ (0xFF00 ≤ a.toNat ∧ a.toNat ≤ 0xFF02) ∧ ¬ (0xFF04 ≤ a.toNat ∧ a.toNat ≤ 0xFF07) ∧ a ≠ 0xFF0F ∧
      ¬ (0xFF10 ≤ a.toNat ∧ a.toNat ≤ 0xFF3F) ∧ ¬ (0xFF40 ≤ a.toNat ∧ a.toNat ≤ 0xFF4B) ∧ a ≠ 0xFF50 := by simp

theorem witness_RegisterReads : 0xFF4B#16 ∈ [0xFF42#16, 0xFF43#16, 0xFF45#16, 0xFF46#16, 0xFF47#16, 0xFF48#16, 0xFF49#16,
    0xFF4A#16, 0xFF4B#16] := by decide

theorem witness_BootOverlay :
    let s := { quiet with bootMapped := true, env := { quiet.env with bootRom := [(0xFF, 0x31)], cart := [(0xFF, 0xC3)] } }
    (0x00FF : Word).toNat ≤ 0x00FF ∧ s.bootMapped = true ∧ Memory.read s.env.bootRom (0x00FF : Word).toNat = some 0x31 ∧
    Memory.read s.env.cart (0x00FF : Word).toNat = some 0xC3 := by decide

theorem witness_PushThenPop :
    (quiet.setSp 0xC002).dma.active = false ∧
    (0xC002 ≤ (quiet.setSp 0xC002).regs.sp.toNat ∧ (quiet.setSp 0xC002).regs.sp.toNat ≤ 0xE000) ∧
    (0xC002 ≤ (quiet.setSp 0xE000).regs.sp.toNat ∧ (quiet.setSp 0xE000).regs.sp.toNat ≤ 0xE000) := by
  refine ⟨rfl, ?_, ?_⟩ <;> simp [State.setSp]

/-- The edge that overflows TIMA. -/
def atEdge : State := { quiet with timer :=
  { sysCounter := 0x000F, tima := 0xFF, tma := 0xAB, tac := 5, signalPrev := true, reloadCountdown := 0 } }

theorem witness_OverflowWindow :
    atEdge.timer.Inv ∧ atEdge.timer.reloadCountdown = 0 ∧ atEdge.timer.tima = 0xFF ∧ (timerT atEdge).timer.tima ≠ 0xFF ∧
    1 ≤ 4 := ⟨⟨by decide, by decide⟩, by decide⟩

theorem witness_TimerWrites : atEdge.timer.Inv := ⟨by decide, by decide⟩

theorem witness_DmaStart : quiet.dma.active = false := rfl

theorem witness_DmaCopiesPage :
    quiet.dma.active = false ∧ (159 < 160 ∧ (0xFD : Byte).toNat < 0xFE ∧
      storageOf (((0xFD : Byte) ++ 0#8) + BitVec.ofNat 16 159) = some 0xDD9F) ∧
    (0 < 160 ∧ storageOf (((0x80 : Byte) ++ 0#8) + BitVec.ofNat 16 0) = some 0x8000) := by decide

/-- The lists, the timer, the DMA engine and the latches of the quiet state; its PPU is off. -/
theorem quiet_inv : quiet.Inv where
  lists := by constructor <;> decide
  timer := ⟨by decide, by decide⟩
  dma := by constructor <;> decide
  ppu := by constructor <;> decide
  latch := by constructor <;> decide

/-- The LCD on, at the start of a frame. -/
theorem lit_inv : lit.Inv where
  lists := by constructor <;> decide
  timer := quiet_inv.timer
  dma := quiet_inv.dma
  ppu := by constructor <;> decide
  latch := quiet_inv.latch

/-- What the frames ask of the state. -/
theorem witness_Frames : quiet.dma.Inv := quiet_inv.dma

theorem witness_FrameTiming : lit.Inv ∧ lit.ppu.lcdOn = true := ⟨lit_inv, by decide⟩

/-- The last dot of line 143. -/
def lastDot : Ppu := { lit.ppu with ly := 143, dot := 455, mode := .hblank }

theorem witness_VblankEntry :
    lastDot.Inv ∧ lastDot.lcdOn = true ∧ lastDot.ly = 143 ∧ lastDot.dot = 455 ∧ lastDot.mode = .hblank :=
  ⟨by constructor <;> decide, by decide⟩

theorem witness_OamScan :
    lit.ppu.Inv ∧ lit.ppu.lcdOn = true ∧ lit.ppu.mode = .oamScan ∧ lit.ppu.dot = 0 ∧ lit.ppu.sprites = [] :=
  ⟨lit_inv.ppu, by decide⟩

theorem witness_FetcherAddresses :
    lit.ppu.windowActive = false ∧ { lit.ppu with windowActive := true }.windowActive = true ∧
    lit.ppu.lcdc.getLsbD 4 = true ∧ quiet.ppu.lcdc.getLsbD 4 = false := by decide

theorem witness_PixelMix :
    let opaquePixel : ObjPixel := { colour := 3, palette := true, priority := true }
    ObjPixel.transparent.colour = 0 ∧
    (opaquePixel.colour ≠ 0 ∧ quiet.ppu.lcdc.getLsbD 0 = false) ∧
    (opaquePixel.colour ≠ 0 ∧ opaquePixel.priority = true ∧ lit.ppu.lcdc.getLsbD 0 = true ∧ (1 : Colour) ≠ 0) := by decide

theorem witness_LcdSwitch :
    (lit.ppu.lcdc.getLsbD 7 = true ∧ (0x7F : Byte).getLsbD 7 = false) ∧
    (quiet.ppu.lcdc.getLsbD 7 = false ∧ (0x80 : Byte).getLsbD 7 = true) ∧
    lit.ppu.lcdc.getLsbD 7 = (0x80 : Byte).getLsbD 7 := by decide

theorem witness_StepKeepsInvariant : quiet.Inv ∧ ∃ t, step quiet = .next t := ⟨quiet_inv, _, rfl⟩

end Sys2Proof.Tests
end

section
/-! PROOFS. The fetch of an instruction (R11, R25, R293; O7): the opcode's M-cycle consumes the halt bug, and each operand
byte's M-cycle moves PC on by one. -/

namespace Sys2Proof.Machine

/-! ## The two kinds of fetch M-cycle -/

/-- The state without the halt bug, which is what the CPU's latches start from after a `Fetch()` (R29, R293). -/
def State.clearHaltBug (s : State) : State := { s with latch := { s.latch with haltBug := false } }

theorem clearHaltBug_frame (s : State) : MemoryFrame [] s s.clearHaltBug := .of_cpu rfl

theorem fetch_latch (s : State) : LatchFrame s.clearHaltBug (fetch s) := by
  obtain ⟨hkeep, hstop⟩ := memRead_latch s.regs.pc s
  have hl : (fetch s).latch = { (memRead s.regs.pc s).latch with haltBug := false } := by
    unfold fetch; dsimp only
    split
    · rfl
    · rename_i hb
      rw [State.advancePc_latch, ← Bool.eq_false_of_not_eq_true hb]
  refine ⟨?_, ?_⟩
  · rw [hl, hkeep]; rfl
  · rw [hl]; exact hstop

theorem fetch_eq_memRead (s : State) :
    fetch s = { memRead s.regs.pc s with regs := (fetch s).regs, latch := (fetch s).latch } := by
  unfold fetch; dsimp only
  split <;> rfl

theorem fetch_dmaInv {s : State} (h : s.dma.Inv) : (fetch s).dma.Inv := by
  rw [fetch_eq_memRead]; exact memRead_dmaInv h s.regs.pc

theorem fetch_frame {s : State} (h : s.dma.Inv) : MemoryFrame [] s (fetch s) :=
  (memRead_frame h s.regs.pc).trans (.of_cpu (by rw [fetch_eq_memRead]))

/-- `Fetch()` is one M-cycle from the state without the halt bug; PC advances unless the halt bug was pending. -/
theorem fetch_does (s : State) :
    Does [] 1 { s.regs with pc := s.regs.pc + (if s.latch.haltBug then 0 else 1) } s.clearHaltBug (fetch s) where
  regs := by rw [fetch_regs]; split <;> simp
  cycles := fetch_cycles s
  latch := fetch_latch s
  memory h := (MemoryFrame.of_cpu (s := s.clearHaltBug) (t := s) rfl).trans (fetch_frame h)
  dma h := fetch_dmaInv (s := s) h
  body h := fetch_body (h.of_cpu (t := s) rfl)

theorem imm8_does (s : State) : Does [] 1 { s.regs with pc := s.regs.pc + 1 } s (imm8 s) := by
  have h := (memRead_does s.regs.pc s).setRegs (u := imm8 s) rfl
  rwa [imm8_regs] at h

/-- `n` operand bytes take `n` M-cycles and move PC past them. -/
theorem imm8_iterate_does (n : Nat) (s : State) :
    Does [] n { s.regs with pc := s.regs.pc + BitVec.ofNat 16 n } s (imm8^[n] s) := by
  induction n with
  | zero => simpa using Does.refl s
  | succ n ih =>
    have h := ih.trans (imm8_does (imm8^[n] s))
    rw [ih.regs] at h
    rw [Function.iterate_succ_apply', BitVec.ofNat_add, ← BitVec.add_assoc]
    exact h

/-! ## The whole fetch -/

/-- The `length` column by the opcode's two hexadecimal digits (R121). -/
theorem lengthTable_le (row col : Fin 16) : lengthTable.getD (16 * row.val + col.val) 1 ≤ 3 := by
  revert row col; decide

theorem lengthOf_le (op : Byte) : lengthOf op ≤ 3 := by
  have hrow : op.toNat / 16 < 16 := by omega
  have hcol : op.toNat % 16 < 16 := by omega
  have h := lengthTable_le ⟨op.toNat / 16, hrow⟩ ⟨op.toNat % 16, hcol⟩
  rwa [Nat.div_add_mod] at h

theorem operandReads_le (op : Byte) : operandReads op ≤ 2 := by
  have h := lengthOf_le op
  unfold operandReads
  split <;> omega

/-- After the opcode, one `Imm8()` for each operand byte the opcode asks for. -/
theorem afterFetch_eq_iterate (s : State) : afterFetch s = imm8^[operandReads (pcByte s)] (fetch s) := by
  have hcases : operandReads (pcByte s) = 0 ∨ operandReads (pcByte s) = 1 ∨ operandReads (pcByte s) = 2 := by
    have := operandReads_le (pcByte s); omega
  unfold afterFetch
  rcases hcases with h | h | h <;> rw [h] <;> rfl

theorem afterFetch_does (s : State) :
    Does [] (1 + operandReads (pcByte s))
      { s.regs with
        pc := s.regs.pc + (if s.latch.haltBug then 0 else 1) + BitVec.ofNat 16 (operandReads (pcByte s)) }
      s.clearHaltBug (afterFetch s) := by
  have h := (fetch_does s).trans (imm8_iterate_does (operandReads (pcByte s)) (fetch s))
  rw [(fetch_does s).regs, ← afterFetch_eq_iterate] at h
  exact h

/-- Settles O7: the fetch is the opcode's M-cycle and then one `Imm8()` per operand byte. -/
theorem fetchOfInstruction : Obligations.FetchOfInstruction := by
  intro s
  have h := afterFetch_does s
  have hbug : (afterFetch s).latch.haltBug = false := by rw [h.latch.1]; rfl
  exact ⟨h.regs, hbug, h.cycles, h.latch, fun hd => (clearHaltBug_frame s).trans (h.memory hd)⟩

end Sys2Proof.Machine
end

section
/-! PROOFS. A pushed word is popped again (R11, R82, R87; O44). With no copy running an M-cycle leaves the storage alone,
so what the two stores left in WRAM is there for the two reads. -/

namespace Sys2Proof.Machine

/-! ## The storage between two accesses -/

/-- From `s` to `t` the block's storage, what its unlisted bytes read as, and the DMA engine have not changed. -/
structure SameStorage (s t : State) : Prop where
  mem : t.mem = s.mem
  launch : t.env.launch = s.env.launch
  dma : t.dma = s.dma

theorem SameStorage.trans {s t u : State} (h₁ : SameStorage s t) (h₂ : SameStorage t u) : SameStorage s u :=
  ⟨h₂.mem.trans h₁.mem, h₂.launch.trans h₁.launch, h₂.dma.trans h₁.dma⟩

theorem SameStorage.ramRead {s t : State} (h : SameStorage s t) (x : Nat) : ramRead t x = ramRead s x :=
  ramRead_congr h.mem h.launch x

theorem SameStorage.idle {s t : State} (h : SameStorage s t) (hd : s.dma.active = false) : t.dma.active = false := by
  rw [h.dma]; exact hd

/-- A T-cycle in which the engine is idle: the other agents do not touch the storage (R330, R388, R302). -/
theorem tickT_sameStorage {s : State} (hd : s.dma.active = false) : SameStorage s (tickT s) := by
  have htimer : SameStorage s (timerT s) := ⟨timerT_mem s, by rw [timerT_env], timerT_dma s⟩
  have hidle : dmaT (timerT s) = timerT s := dmaT_idle (htimer.idle hd)
  have hp := ppuT_only (timerT s)
  have hppu : SameStorage (timerT s) (ppuT (timerT s)) := ⟨hp.mem, by rw [hp.env], hp.dma⟩
  have hc := collaboratorsT_only (ppuT (timerT s))
  have hcollab : SameStorage (ppuT (timerT s)) (collaboratorsT (ppuT (timerT s))) := ⟨hc.mem, by rw [hc.env], hc.dma⟩
  unfold tickT
  rw [hidle]
  exact (htimer.trans hppu).trans hcollab

theorem tickT_iterate_sameStorage (n : Nat) {s : State} (hd : s.dma.active = false) :
    SameStorage s (tickT^[n] s) := by
  induction n with
  | zero => exact ⟨rfl, rfl, rfl⟩
  | succ n ih =>
    rw [Function.iterate_succ_apply']
    exact ih.trans (tickT_sameStorage (ih.idle hd))

theorem mcycle_sameStorage {s : State} (hd : s.dma.active = false) : SameStorage s (mcycle s) :=
  (tickT_iterate_sameStorage 4 hd).trans ⟨rfl, rfl, rfl⟩

theorem afterCpuRead_sameStorage (a : Word) (s : State) : SameStorage s (afterCpuRead a s) := by
  rcases afterCpuRead_keeps a s with h | h <;> rw [h] <;> exact ⟨rfl, rfl, rfl⟩

theorem popByte_sameStorage {s : State} (hd : s.dma.active = false) : SameStorage s (popByte s) := by
  have hread := afterCpuRead_sameStorage s.regs.sp s
  have hmem : SameStorage s (memRead s.regs.sp s) := hread.trans (mcycle_sameStorage (hread.idle hd))
  exact hmem.trans ⟨rfl, rfl, rfl⟩

/-! ## WRAM is open to the CPU while no copy runs -/

theorem regionOf_wram {a : Word} (hlo : 0xC000 ≤ a.toNat) (hhi : a.toNat < 0xE000) : regionOf a = .wram := by
  unfold regionOf
  rw [if_neg (by omega), if_neg (by omega), if_neg (by omega), if_pos hhi]

theorem cpuBlocked_wram {s : State} {a : Word} (hd : s.dma.active = false) (ha : regionOf a = .wram) :
    cpuBlocked s a = false := by simp [cpuBlocked, hd, ha]

theorem cpuRead_wram {s : State} {a : Word} (hd : s.dma.active = false) (ha : regionOf a = .wram) :
    cpuRead s a = ramRead s a.toNat := by simp [cpuRead, cpuBlocked_wram hd ha, busRead, ha]

theorem cpuWrite_wram {s : State} {a : Word} (hd : s.dma.active = false) (ha : regionOf a = .wram) (v : Byte) :
    cpuWrite a v s = ramWrite a.toNat v s := by simp [cpuWrite, cpuBlocked_wram hd ha, busWrite, ha]

/-- Half a push into WRAM: the byte at the new top, and the storage otherwise as before. -/
theorem pushByte_wram {s : State} (hd : s.dma.active = false) (ha : regionOf (s.regs.sp - 1) = .wram) (v : Byte) :
    SameStorage (ramWrite (s.regs.sp - 1).toNat v s) (pushByte v s) := by
  have hstore : SameStorage (ramWrite (s.regs.sp - 1).toNat v s)
      (cpuWrite (s.regs.sp - 1) v (s.setSp (s.regs.sp - 1))) := by
    rw [cpuWrite_wram (s := s.setSp (s.regs.sp - 1)) hd ha]; exact ⟨rfl, rfl, rfl⟩
  exact hstore.trans (mcycle_sameStorage (hstore.idle hd))

/-- A push into WRAM: the high byte below SP, the low byte below that, and still no copy running (R11). -/
theorem push16_wram {s : State} (v : Word) (hd : s.dma.active = false) (h₁ : regionOf (s.regs.sp - 1) = .wram)
    (h₂ : regionOf (s.regs.sp - 2) = .wram) :
    ramRead (push16 v s) (s.regs.sp - 1).toNat = hiByte v ∧ ramRead (push16 v s) (s.regs.sp - 2).toNat = loByte v ∧
      (push16 v s).dma.active = false := by
  have hhigh := pushByte_wram hd h₁ (hiByte v)
  have hsp : (pushByte (hiByte v) s).regs.sp - 1 = s.regs.sp - 2 := by rw [pushByte_regs]; bv_omega
  have hlow := pushByte_wram (s := pushByte (hiByte v) s) (hhigh.idle hd) (hsp ▸ h₂) (loByte v)
  rw [hsp] at hlow
  have hne : (s.regs.sp - 1).toNat ≠ (s.regs.sp - 2).toNat := by bv_omega
  refine ⟨?_, ?_, hlow.idle (hhigh.idle hd)⟩
  · calc ramRead (push16 v s) (s.regs.sp - 1).toNat
      _ = ramRead (pushByte (hiByte v) s) (s.regs.sp - 1).toNat :=
        (hlow.ramRead _).trans (ramRead_ramWrite_other hne _ _)
      _ = hiByte v := (hhigh.ramRead _).trans (ramRead_ramWrite_same _ _ _)
  · exact (hlow.ramRead _).trans (ramRead_ramWrite_same _ _ _)

/-- A pop from WRAM gives the bytes at SP and above it. -/
theorem popWord_wram {s : State} (hd : s.dma.active = false) (h₁ : regionOf s.regs.sp = .wram)
    (h₂ : regionOf (s.regs.sp + 1) = .wram) :
    popWord s = wordOf (ramRead s (s.regs.sp + 1).toNat) (ramRead s s.regs.sp.toNat) := by
  have hkeep := popByte_sameStorage hd
  unfold popWord; dsimp only
  rw [popByte_regs, cpuRead_wram hd h₁, cpuRead_wram (hkeep.idle hd) h₂, hkeep.ramRead]

/-- Settles O44: the two bytes pushed into WRAM are the two bytes popped. -/
theorem pushThenPop : Obligations.PushThenPop := by
  intro s v hd hlo hhi
  have hw₁ : regionOf (s.regs.sp - 1) = .wram := regionOf_wram (by bv_omega) (by bv_omega)
  have hw₂ : regionOf (s.regs.sp - 2) = .wram := regionOf_wram (by bv_omega) (by bv_omega)
  obtain ⟨hhigh, hlow, hidle⟩ := push16_wram v hd hw₁ hw₂
  have hsp : (push16 v s).regs.sp = s.regs.sp - 2 := by rw [push16_regs]
  have hup : s.regs.sp - 2 + 1 = s.regs.sp - 1 := by bv_omega
  constructor
  · rw [popWord_wram hidle (by rwa [hsp]) (by rwa [hsp, hup]), hsp, hup, hhigh, hlow, wordOf_hiByte_loByte]
  · have hback : s.regs.sp - 2 + 2 = s.regs.sp := by bv_omega
    rw [pop16_regs, push16_regs, hback]

end Sys2Proof.Machine
end

section
/-! PROOFS. What every decoded instruction does (R110 to R120, R130 to R266): it stays within the frames of `Does`, or it
is one of the few that write the control latches. The decoder's tables are walked once, here. -/

namespace Sys2Proof.Machine

/-! ## The dispatch of a family of rows is one shared operation -/

section
variable (s : State)

@[simp] theorem exec_ldRegReg (dst src : Reg8) : exec (Instr.ldRegReg dst src) s = .next (ldRegReg dst src s) := by
  cases dst <;> cases src <;> rfl
@[simp] theorem exec_ldRegImm (r : Reg8) (n : Byte) : exec (Instr.ldRegImm r n) s = .next (ldRegImm r n s) := by
  cases r <;> rfl
@[simp] theorem exec_ldRegMemHl (r : Reg8) : exec (Instr.ldRegMemHl r) s = .next (ldRegMemHl r s) := by
  cases r <;> rfl
@[simp] theorem exec_ldMemHlReg (r : Reg8) : exec (Instr.ldMemHlReg r) s = .next (ldMemHlReg r s) := by
  cases r <;> rfl
@[simp] theorem exec_ldReg16Imm (rr : Reg16) (nn : Word) :
    exec (Instr.ldReg16Imm rr nn) s = .next (ldReg16Imm rr nn s) := by cases rr <;> rfl
@[simp] theorem exec_pushReg (qq : StackReg) : exec (Instr.pushReg qq) s = .next (push qq s) := by cases qq <;> rfl
@[simp] theorem exec_popReg (qq : StackReg) : exec (Instr.popReg qq) s = .next (pop qq s) := by cases qq <;> rfl
@[simp] theorem exec_aluReg (op : AluOp) (r : Reg8) : exec (Instr.aluReg op r) s = .next (aluReg op r s) := by
  cases op <;> cases r <;> rfl
@[simp] theorem exec_aluMemHl (op : AluOp) : exec (Instr.aluMemHl op) s = .next (aluMemHl op s) := by
  cases op <;> rfl
@[simp] theorem exec_aluImm (op : AluOp) (n : Byte) : exec (Instr.aluImm op n) s = .next (aluImm op n s) := by
  cases op <;> rfl
@[simp] theorem exec_incReg (r : Reg8) : exec (Instr.incReg r) s = .next (incReg r s) := by cases r <;> rfl
@[simp] theorem exec_decReg (r : Reg8) : exec (Instr.decReg r) s = .next (decReg r s) := by cases r <;> rfl
@[simp] theorem exec_addHlReg16 (rr : Reg16) : exec (Instr.addHlReg16 rr) s = .next (addHl rr s) := by
  cases rr <;> rfl
@[simp] theorem exec_incReg16 (rr : Reg16) : exec (Instr.incReg16 rr) s = .next (incReg16 rr s) := by
  cases rr <;> rfl
@[simp] theorem exec_decReg16 (rr : Reg16) : exec (Instr.decReg16 rr) s = .next (decReg16 rr s) := by
  cases rr <;> rfl
@[simp] theorem exec_jpCond (cc : Cond) (nn : Word) : exec (Instr.jpCond cc nn) s = .next (jpCond cc nn s) := by
  cases cc <;> rfl
@[simp] theorem exec_jrCond (cc : Cond) (e : Byte) : exec (Instr.jrCond cc e) s = .next (jrCond cc e s) := by
  cases cc <;> rfl
@[simp] theorem exec_callCond (cc : Cond) (nn : Word) :
    exec (Instr.callCond cc nn) s = .next (callCond cc nn s) := by cases cc <;> rfl
@[simp] theorem exec_retCond (cc : Cond) : exec (Instr.retCond cc) s = .next (retCond cc s) := by cases cc <;> rfl
@[simp] theorem exec_rst (t : Oct) : exec (Instr.rst t) s = .next (rst t s) := by cases t <;> rfl
@[simp] theorem exec_shiftReg (op : ShiftOp) (r : Reg8) :
    exec (Instr.shiftReg op r) s = .next (shiftReg op r s) := by cases op <;> cases r <;> rfl
@[simp] theorem exec_shiftMemHl (op : ShiftOp) : exec (Instr.shiftMemHl op) s = .next (shiftMemHl op s) := by
  cases op <;> rfl
@[simp] theorem exec_bitReg (b : Oct) (r : Reg8) : exec (Instr.bitReg b r) s = .next (bitReg b r s) := by
  cases b <;> cases r <;> rfl
@[simp] theorem exec_bitMemHl (b : Oct) : exec (Instr.bitMemHl b) s = .next (bitMemHl b s) := by cases b <;> rfl
@[simp] theorem exec_resReg (b : Oct) (r : Reg8) : exec (Instr.resReg b r) s = .next (resReg b r s) := by
  cases b <;> cases r <;> rfl
@[simp] theorem exec_resMemHl (b : Oct) : exec (Instr.resMemHl b) s = .next (resMemHl b s) := by cases b <;> rfl
@[simp] theorem exec_setReg (b : Oct) (r : Reg8) : exec (Instr.setReg b r) s = .next (setReg b r s) := by
  cases b <;> cases r <;> rfl
@[simp] theorem exec_setMemHl (b : Oct) : exec (Instr.setMemHl b) s = .next (setMemHl b s) := by cases b <;> rfl

end

/-! ## The effect of an instruction -/

/-- From `s` to `t` the instruction `i`, run after its fetch, stays within the frames of `Does`; or it writes the control
latches: HALT, STOP, DI, EI, RETI, or an undefined opcode. -/
inductive Effect (i : Instr) (s : State) : State → Prop
  | framed {stored : List Word} {n : Nat} {regs : Regs} {t : State} (h : Does stored n regs s t) : Effect i s t
  | halt (hi : i = .halt) : Effect i s (halt s)
  | stop (hi : i = .stop) : Effect i s (stop s)
  | di (hi : i = .di) : Effect i s (di s)
  | ei (hi : i = .ei) : Effect i s (ei s)
  | reti (hi : i = .reti) : Effect i s (reti s)
  | lockUp : Effect i s (lockUp s)

/-- The instruction completes in every state, with one of the effects. -/
def HasEffect (i : Instr) : Prop := ∀ s, ∃ t, exec i s = .next t ∧ Effect i s t

theorem Effect.ite {i : Instr} {s t u : State} {p : Prop} [Decidable p] (ht : Effect i s t) (hu : Effect i s u) :
    Effect i s (if p then t else u) := by
  split
  · exact ht
  · exact hu

theorem HasEffect.ite {i j : Instr} {p : Prop} [Decidable p] (hi : HasEffect i) (hj : HasEffect j) :
    HasEffect (if p then i else j) := by
  split
  · exact hi
  · exact hj

/-- A row whose meaning is a shared operation within the frames. -/
theorem HasEffect.of_does {i : Instr} {f : State → State} {stored : State → List Word} {n : State → Nat}
    {regs : State → Regs} (he : ∀ s, exec i s = .next (f s)) (hd : ∀ s, Does (stored s) (n s) (regs s) s (f s)) :
    HasEffect i := fun s => ⟨f s, he s, .framed (hd s)⟩

/-! ## The CB table (R119) -/

theorem decodeCb_effect (c : Byte) : HasEffect (decodeCb c) := by
  unfold decodeCb; dsimp only
  cases reg8Of (fieldZ c) with
  | some r =>
    exact .ite (.of_does (exec_shiftReg · _ r) fun s => setRegOut_does s r _)
      (.ite (.of_does (exec_bitReg · _ r) (bitReg_does · _ r))
        (.ite (.of_does (exec_resReg · _ r) (resReg_does · _ r)) (.of_does (exec_setReg · _ r) (setReg_does · _ r))))
  | none =>
    exact .ite (.of_does (exec_shiftMemHl · _) fun s => modifyMemHl_does s _)
      (.ite (.of_does (exec_bitMemHl · _) (bitMemHl_does · _))
        (.ite (.of_does (exec_resMemHl · _) (resMemHl_does · _)) (.of_does (exec_setMemHl · _) (setMemHl_does · _))))

/-! ## The families of the main table -/

theorem ldReg16Imm_effect (rr : Reg16) (nn : Word) : HasEffect (Instr.ldReg16Imm rr nn) :=
  .of_does (exec_ldReg16Imm · rr nn) (ldReg16Imm_does · rr nn)

theorem addHlReg16_effect (rr : Reg16) : HasEffect (Instr.addHlReg16 rr) :=
  .of_does (exec_addHlReg16 · rr) (addHl_does · rr)

theorem incReg16_effect (rr : Reg16) : HasEffect (Instr.incReg16 rr) :=
  .of_does (exec_incReg16 · rr) (incReg16_does · rr)

theorem decReg16_effect (rr : Reg16) : HasEffect (Instr.decReg16 rr) :=
  .of_does (exec_decReg16 · rr) (decReg16_does · rr)

theorem pushReg_effect (qq : StackReg) : HasEffect (Instr.pushReg qq) :=
  .of_does (exec_pushReg · qq) (push_does · qq)

theorem popReg_effect (qq : StackReg) : HasEffect (Instr.popReg qq) :=
  .of_does (exec_popReg · qq) (pop_does · qq)

/-- JP with a condition: the jump, or nothing (R242). -/
theorem jpCond_effect (cc : Cond) (nn : Word) : HasEffect (Instr.jpCond cc nn) := fun s =>
  ⟨_, exec_jpCond s cc nn, .ite (.framed (jp_does s nn)) (.framed (Does.refl s))⟩

/-- JR with a condition: the jump, or nothing (R245). -/
theorem jrCond_effect (cc : Cond) (e : Byte) : HasEffect (Instr.jrCond cc e) := fun s =>
  ⟨_, exec_jrCond s cc e, .ite (.framed (jr_does s e)) (.framed (Does.refl s))⟩

/-- CALL with a condition: the call, or nothing (R247). -/
theorem callCond_effect (cc : Cond) (nn : Word) : HasEffect (Instr.callCond cc nn) := fun s =>
  ⟨_, exec_callCond s cc nn, .ite (.framed (call_does s nn)) (.framed (Does.refl s))⟩

/-- RET with a condition: an internal M-cycle, and then the return or nothing (R249). -/
theorem retCond_effect (cc : Cond) : HasEffect (Instr.retCond cc) := fun s =>
  ⟨_, exec_retCond s cc, .ite (.framed ((internal_does s).trans (ret_does _))) (.framed (internal_does s))⟩

/-- The undefined opcodes lock the CPU (R266). -/
theorem lockUp_effect {i : Instr} (he : ∀ s, exec i s = .next (lockUp s)) : HasEffect i := fun s =>
  ⟨_, he s, .lockUp⟩

/-- The rows that write A and the flags and nothing else: DAA and the rotates of A (R189, R210 to R213). -/
theorem setAcc_effect {i : Instr} (o : State → AluOut) (he : ∀ s, exec i s = .next (s.setAcc (o s))) : HasEffect i :=
  .of_does he fun s => setAcc_does s (o s)

/-! ## The quarters of the main table (R111) -/

theorem decodeX0_effect (y z : Oct) (n : Byte) (nn : Word) : HasEffect (decodeX0 y z n nn) := by
  cases z with
  | o0 =>
    cases y with
    | o0 => exact .of_does (fun _ => rfl) Does.refl
    | o1 => exact .of_does (fun _ => rfl) (ldMemNnSp_does · nn)
    | o2 => exact fun s => ⟨_, rfl, .stop rfl⟩
    | o3 => exact .of_does (fun _ => rfl) (jr_does · n)
    | o4 | o5 | o6 | o7 => simp only [decodeX0, jrCond_effect]
  | o1 =>
    cases y with
    | o0 | o2 | o4 | o6 => simp only [decodeX0, ldReg16Imm_effect]
    | o1 | o3 | o5 | o7 => simp only [decodeX0, addHlReg16_effect]
  | o2 =>
    cases y with
    | o0 => exact .of_does (fun _ => rfl) (storeA_does · .bc)
    | o1 => exact .of_does (fun _ => rfl) (loadA_does · .bc)
    | o2 => exact .of_does (fun _ => rfl) (storeA_does · .de)
    | o3 => exact .of_does (fun _ => rfl) (loadA_does · .de)
    | o4 => exact .of_does (fun _ => rfl) (storeAHl_does · 1)
    | o5 => exact .of_does (fun _ => rfl) (loadAHl_does · 1)
    | o6 => exact .of_does (fun _ => rfl) (storeAHl_does · (-1))
    | o7 => exact .of_does (fun _ => rfl) (loadAHl_does · (-1))
  | o3 =>
    cases y with
    | o0 | o2 | o4 | o6 => simp only [decodeX0, incReg16_effect]
    | o1 | o3 | o5 | o7 => simp only [decodeX0, decReg16_effect]
  | o4 =>
    unfold decodeX0; dsimp only
    cases reg8Of y with
    | some r => exact .of_does (exec_incReg · r) fun s => setRegOut_does s r _
    | none => exact .of_does (fun _ => rfl) fun s => modifyMemHl_does s _
  | o5 =>
    unfold decodeX0; dsimp only
    cases reg8Of y with
    | some r => exact .of_does (exec_decReg · r) fun s => setRegOut_does s r _
    | none => exact .of_does (fun _ => rfl) fun s => modifyMemHl_does s _
  | o6 =>
    unfold decodeX0; dsimp only
    cases reg8Of y with
    | some r => exact .of_does (exec_ldRegImm · r n) (ldRegImm_does · r n)
    | none => exact .of_does (fun _ => rfl) (ldMemHlImm_does · n)
  | o7 =>
    cases y with
    | o0 | o1 | o2 | o3 | o4 => exact setAcc_effect _ fun _ => rfl
    | o5 => exact .of_does (fun _ => rfl) cpl_does
    | o6 => exact .of_does (fun _ => rfl) scf_does
    | o7 => exact .of_does (fun _ => rfl) ccf_does

theorem decodeX1_effect (y z : Oct) : HasEffect (decodeX1 y z) := by
  unfold decodeX1
  cases reg8Of y with
  | some dst =>
    cases reg8Of z with
    | some src => exact .of_does (exec_ldRegReg · dst src) (ldRegReg_does · dst src)
    | none => exact .of_does (exec_ldRegMemHl · dst) (ldRegMemHl_does · dst)
  | none =>
    cases reg8Of z with
    | some src => exact .of_does (exec_ldMemHlReg · src) (ldMemHlReg_does · src)
    | none => exact fun s => ⟨_, rfl, .halt rfl⟩

theorem decodeX2_effect (y z : Oct) : HasEffect (decodeX2 y z) := by
  unfold decodeX2
  cases reg8Of z with
  | some r => exact .of_does (exec_aluReg · _ r) (aluReg_does · _ r)
  | none => exact .of_does (exec_aluMemHl · _) (aluMemHl_does · _)

theorem decodeX3_effect (y z : Oct) (n : Byte) (nn : Word) : HasEffect (decodeX3 y z n nn) := by
  cases z with
  | o0 =>
    cases y with
    | o0 | o1 | o2 | o3 => simp only [decodeX3, retCond_effect]
    | o4 => exact .of_does (fun _ => rfl) (ldhStoreImm_does · n)
    | o5 => exact .of_does (fun _ => rfl) (addSp_does · n)
    | o6 => exact .of_does (fun _ => rfl) (ldhLoadImm_does · n)
    | o7 => exact .of_does (fun _ => rfl) (ldHlSp_does · n)
  | o1 =>
    cases y with
    | o0 | o2 | o4 | o6 => simp only [decodeX3, popReg_effect]
    | o1 => exact .of_does (fun _ => rfl) ret_does
    | o3 => exact fun s => ⟨_, rfl, .reti rfl⟩
    | o5 => exact .of_does (fun _ => rfl) jpHl_does
    | o7 => exact .of_does (fun _ => rfl) ldSpHl_does
  | o2 =>
    cases y with
    | o0 | o1 | o2 | o3 => simp only [decodeX3, jpCond_effect]
    | o4 => exact .of_does (fun _ => rfl) ldhStoreC_does
    | o5 => exact .of_does (fun _ => rfl) (ldAbsStore_does · nn)
    | o6 => exact .of_does (fun _ => rfl) ldhLoadC_does
    | o7 => exact .of_does (fun _ => rfl) (ldAbsLoad_does · nn)
  | o3 =>
    cases y with
    | o0 => exact .of_does (fun _ => rfl) (jp_does · nn)
    | o1 => exact decodeCb_effect n
    | o2 | o3 | o4 | o5 => exact lockUp_effect fun _ => rfl
    | o6 => exact fun s => ⟨_, rfl, .di rfl⟩
    | o7 => exact fun s => ⟨_, rfl, .ei rfl⟩
  | o4 =>
    cases y with
    | o0 | o1 | o2 | o3 => simp only [decodeX3, callCond_effect]
    | o4 | o5 | o6 | o7 => exact lockUp_effect fun _ => rfl
  | o5 =>
    cases y with
    | o0 | o2 | o4 | o6 => simp only [decodeX3, pushReg_effect]
    | o1 => exact .of_does (fun _ => rfl) (call_does · nn)
    | o3 | o5 | o7 => exact lockUp_effect fun _ => rfl
  | o6 => exact .of_does (exec_aluImm · _ n) (aluImm_does · _ n)
  | o7 => exact .of_does (exec_rst · y) fun s => call_does s (rstTarget y)

theorem decodeOp_effect (op b1 b2 : Byte) : HasEffect (decodeOp op b1 b2) :=
  .ite (decodeX0_effect _ _ _ _) (.ite (decodeX1_effect _ _) (.ite (decodeX2_effect _ _) (decodeX3_effect _ _ _ _)))

/-- What the CPU fetches is what the decoder makes of the opcode at PC and two bytes. -/
theorem fetchedInstr_effect (s : State) : HasEffect (fetchedInstr s) := by
  unfold fetchedInstr; dsimp only
  split <;> exact decodeOp_effect _ _ _

end Sys2Proof.Machine
end

section
/-! PROOFS. Every step keeps the invariant (R52 to R57, R300, R390; O60). What a step can do is said once, and so is what
keeps the control latches' part of the invariant; the rest of the invariant comes with the frames of `Does`. -/

namespace Sys2Proof.Machine

/-! ## What a step can do (R292 to R297) -/

/-- A step is an idle M-cycle, or goes on at the boundary of a CPU that is awake and not locked. -/
theorem step_cases {s t : State} (h : step s = .next t) :
    t = internal s ∨ (s.latch.locked = false ∧ runBoundary (wake s) = .next t) := by
  have hawake : s.latch.halted = false → wake s = s := fun hh => by unfold wake; rw [← hh]; rfl
  unfold step schedulerStep at h
  split at h
  · exact .inl (Host.Outcome.next.inj h).symm
  · next hl =>
    have hlocked : s.latch.locked = false := by simpa using hl
    split at h
    · split at h
      · exact .inl (Host.Outcome.next.inj h).symm
      · exact .inr ⟨hlocked, h⟩
    · next hh => exact .inr ⟨hlocked, by rwa [hawake (by simpa using hh)]⟩

/-- At a boundary the CPU is stopped, or serves the selected line, or executes an instruction. -/
theorem runBoundary_cases {s t : State} (h : runBoundary s = .next t) :
    t = internal s ∨ (s.latch.stopped = false ∧
      ((∃ n, serviceLine s = some n ∧ t = takeInterrupt n s) ∨
        (serviceLine s = none ∧ executeInstruction s = .next t))) := by
  unfold runBoundary at h
  split at h
  · exact .inl (Host.Outcome.next.inj h).symm
  · next hs =>
    refine .inr ⟨by simpa using hs, ?_⟩
    split at h
    · next n hn => exact .inl ⟨n, hn, (Host.Outcome.next.inj h).symm⟩
    · next hn => exact .inr ⟨hn, h⟩

/-- An executed instruction is its fetch, its effect, and the end of the EI delay (R293, R294). -/
theorem executeInstruction_cases {s t : State} (h : executeInstruction s = .next t) :
    ∃ u, Effect (fetchedInstr s) (afterFetch s) u ∧ t = afterInstruction s.latch.imePending u := by
  obtain ⟨u, hu, heffect⟩ := fetchedInstr_effect s (afterFetch s)
  unfold executeInstruction at h
  rw [hu] at h
  exact ⟨u, heffect, (Host.Outcome.next.inj h).symm⟩

/-- Service of a line, from the state in which its request is acknowledged (R288, R290). -/
theorem takeInterrupt_does (n : IntLine) (s : State) :
    Does [s.regs.sp - 1, s.regs.sp - 2] 5 { s.regs with sp := s.regs.sp - 2, pc := n.vector } (acknowledge n s)
      (takeInterrupt n s) := by
  have hentry := (internal_does (acknowledge n s)).trans (internal_does _)
  have hpush := hentry.trans (push16_does (serviceReturn s) _)
  have h := (hpush.trans (internal_does _)).setRegs (u := takeInterrupt n s) rfl
  simpa [takeInterrupt, acknowledge] using h

/-! ## The control latches (R300) -/

/-- The CPU is in no idle state and no halt bug is pending: an instruction runs (R293, R300). -/
structure Latches.Running (l : Latches) : Prop where
  halted : l.halted = false
  stopped : l.stopped = false
  locked : l.locked = false
  haltBug : l.haltBug = false

theorem Latches.Running.inv {l : Latches} (h : l.Running) : l.Inv := by
  constructor <;> simp [h.halted, h.stopped, h.locked, h.haltBug]

theorem LatchFrame.not_stopped {s t : State} (h : LatchFrame s t) (hs : s.latch.stopped = false) :
    t.latch.stopped = false :=
  Bool.eq_false_of_not_eq_true fun ht => Bool.false_ne_true (hs.symm.trans (h.2 ht))

theorem LatchFrame.running {s t : State} (h : LatchFrame s t) (hs : s.latch.Running) : t.latch.Running := by
  rw [h.1]
  exact ⟨hs.halted, h.not_stopped hs.stopped, hs.locked, hs.haltBug⟩

/-- The end of STOP breaks none of the latches' rules. -/
theorem LatchFrame.inv {s t : State} (h : LatchFrame s t) (hs : s.latch.Inv) : t.latch.Inv := by
  rw [h.1]
  constructor
  · exact fun hh => h.not_stopped (hs.haltedStopped hh)
  · exact hs.haltedLocked
  · exact fun hst => hs.stoppedLocked (h.2 hst)
  · intro hb
    obtain ⟨hh, hst, hl⟩ := hs.haltBug hb
    exact ⟨hh, h.not_stopped hst, hl⟩

/-- What stays within the frames keeps the whole invariant. -/
theorem Does.inv {stored : List Word} {n : Nat} {regs : Regs} {s t : State} (h : Does stored n regs s t)
    (hs : s.Inv) : t.Inv :=
  have hb := h.body hs.body
  ⟨hb.lists, hb.timer, hb.dma, hb.ppu, h.latch.inv hs.latch⟩

/-- A change of the CPU's own registers and latches and of IF keeps the invariant if the new latches have it. -/
theorem State.Body.inv_of_cpu {s t : State} (h : s.Body)
    (e : t = { s with regs := t.regs, latch := t.latch, cycles := t.cycles, ifReg := t.ifReg })
    (hl : t.latch.Inv) : t.Inv :=
  have hb := h.of_cpu e
  ⟨hb.lists, hb.timer, hb.dma, hb.ppu, hl⟩

/-! ## The instructions that write the latches (R250, R261 to R266) -/

/-- HALT sets one of `halted` and the halt bug, in a CPU that has neither. -/
theorem halt_inv {s : State} (h : s.Inv) (hr : s.latch.Running) : (halt s).Inv := by
  unfold halt
  split
  · exact h.body.inv_of_cpu rfl (by constructor <;> simp [hr.halted, hr.stopped, hr.locked])
  · exact h.body.inv_of_cpu rfl (by constructor <;> simp [hr.stopped, hr.locked, hr.haltBug])

/-- STOP resets the system counter, and the edge detector sees it (R262, R322). -/
theorem stop_inv {s : State} (h : s.Inv) (hr : s.latch.Running) : (stop s).Inv where
  lists := ⟨h.lists.mem, h.lists.memRam, h.lists.memZero, h.lists.cart, h.lists.bootRom, h.lists.drawFb,
    h.lists.visibleFb⟩
  timer := Timer.edgeCheck_inv _ h.timer.countdown
  dma := h.dma
  ppu := h.ppu
  latch := by constructor <;> simp [stop, hr.halted, hr.locked, hr.haltBug]

/-- The lock is the only idle state of a CPU that was running. -/
theorem lockUp_inv {s : State} (h : s.Inv) (hr : s.latch.Running) : (lockUp s).Inv :=
  h.body.inv_of_cpu rfl (by constructor <;> simp [lockUp, lock, hr.halted, hr.stopped, hr.haltBug])

/-- IME and `ime_pending` are in none of the latches' rules. -/
theorem Latches.Inv.ime {l : Latches} (h : l.Inv) (ime imePending : Bool) :
    Latches.Inv { l with ime := ime, imePending := imePending } :=
  ⟨h.haltedStopped, h.haltedLocked, h.stoppedLocked, h.haltBug⟩

theorem di_inv {s : State} (h : s.Inv) : (di s).Inv := h.body.inv_of_cpu rfl (h.latch.ime _ _)

theorem ei_inv {s : State} (h : s.Inv) : (ei s).Inv := h.body.inv_of_cpu rfl (h.latch.ime _ _)

/-- RETI is RET and then IME (R250). -/
theorem reti_inv {s : State} (h : s.Inv) : (reti s).Inv :=
  have hret : (ret s).Inv := (ret_does s).inv h
  hret.body.inv_of_cpu rfl (hret.latch.ime _ _)

/-- Every instruction, run after its fetch, keeps the invariant. -/
theorem Effect.inv {i : Instr} {s t : State} (h : Effect i s t) (hs : s.Inv) (hr : s.latch.Running) : t.Inv := by
  cases h with
  | framed h => exact h.inv hs
  | halt => exact halt_inv hs hr
  | stop => exact stop_inv hs hr
  | di => exact di_inv hs
  | ei => exact ei_inv hs
  | reti => exact reti_inv hs
  | lockUp => exact lockUp_inv hs hr

/-! ## The iteration -/

/-- Waking up ends the idle state that rules the others out. -/
theorem wake_inv {s : State} (h : s.Inv) : (wake s).Inv :=
  h.body.inv_of_cpu rfl
    ⟨(nomatch ·), (nomatch ·), h.latch.stoppedLocked, fun hb => ⟨rfl, (h.latch.haltBug hb).2⟩⟩

theorem acknowledge_inv (n : IntLine) {s : State} (h : s.Inv) : (acknowledge n s).Inv :=
  h.body.inv_of_cpu rfl
    ⟨h.latch.haltedStopped, h.latch.haltedLocked, h.latch.stoppedLocked, (nomatch ·)⟩

theorem afterInstruction_inv (was : Bool) {s : State} (h : s.Inv) : (afterInstruction was s).Inv := by
  unfold afterInstruction
  split
  · exact h.body.inv_of_cpu rfl (h.latch.ime _ _)
  · exact h

theorem clearHaltBug_inv {s : State} (h : s.Inv) : s.clearHaltBug.Inv :=
  h.body.inv_of_cpu rfl
    ⟨h.latch.haltedStopped, h.latch.haltedLocked, h.latch.stoppedLocked, (nomatch ·)⟩

/-- The fetch consumes the halt bug, so the instruction starts in a running CPU (R293). -/
theorem executeInstruction_inv {s t : State} (h : s.Inv) (hh : s.latch.halted = false)
    (hs : s.latch.stopped = false) (hl : s.latch.locked = false) (he : executeInstruction s = .next t) : t.Inv := by
  have hfetch := afterFetch_does s
  have hrunning : s.clearHaltBug.latch.Running := ⟨hh, hs, hl, rfl⟩
  obtain ⟨u, heffect, rfl⟩ := executeInstruction_cases he
  exact afterInstruction_inv _ (heffect.inv (hfetch.inv (clearHaltBug_inv h)) (hfetch.latch.running hrunning))

/-- Settles O60: an idle M-cycle, the service of a line and an instruction each keep the invariant. -/
theorem stepKeepsInvariant : Obligations.StepKeepsInvariant := by
  intro s t h hstep
  rcases step_cases hstep with rfl | ⟨hl, hrun⟩
  · exact (internal_does s).inv h
  · have hw := wake_inv h
    rcases runBoundary_cases hrun with rfl | ⟨hs, ⟨n, -, rfl⟩ | ⟨-, he⟩⟩
    · exact (internal_does _).inv hw
    · exact (takeInterrupt_does n _).inv (acknowledge_inv n hw)
    · exact executeInstruction_inv hw rfl hs hl he

end Sys2Proof.Machine
end

section
/-! PROOFS. The register file and its views (R20 to R22; O36). -/

namespace Sys2Proof.Machine

/-! ## Registers and pairs -/

section
variable (r : Regs)

theorem Regs.get8_set8_eq (i j : Reg8) (v : Byte) : (r.set8 i v).get8 j = if j = i then v else r.get8 j := by
  split
  · next h => rw [h, Regs.get8_set8]
  · next h => exact r.get8_set8_ne h v

theorem Regs.get16_set16 (i : Reg16) (w : Word) : (r.set16 i w).get16 i = w := by
  cases i with
  | bc | de | hl => exact wordOf_hiByte_loByte w
  | sp => rfl

theorem Regs.get16_set16_ne {i j : Reg16} (h : j ≠ i) (w : Word) : (r.set16 i w).get16 j = r.get16 j := by
  cases i <;> cases j <;> first | rfl | exact absurd rfl h

theorem Regs.get16_set16_eq (i j : Reg16) (w : Word) :
    (r.set16 i w).get16 j = if j = i then w else r.get16 j := by
  split
  · next h => rw [h, Regs.get16_set16]
  · next h => exact r.get16_set16_ne h w

/-! ## F as a byte, and AF -/

/-- F holds the four flags, and its low nibble is 0 (R22, R23). -/
theorem Flags.toByte_ofByte (v : Byte) : (Flags.ofByte v).toByte = v &&& 0xF0 := by
  apply BitVec.eq_of_getLsbD_eq
  intro i hi
  simp only [Flags.toByte, Flags.ofByte, BitVec.getLsbD_append]
  interval_cases i <;> simp

theorem Regs.getStack_setStack_af (w : Word) : (r.setStack .af w).getStack .af = w &&& 0xFFF0 :=
  calc (r.setStack .af w).getStack .af
    _ = wordOf (hiByte w) (loByte w &&& 0xF0) := congrArg (wordOf (hiByte w)) (Flags.toByte_ofByte (loByte w))
    _ = wordOf (hiByte w &&& BitVec.allOnes 8) (loByte w &&& 0xF0) := by rw [BitVec.and_allOnes]
    _ = wordOf (hiByte w) (loByte w) &&& wordOf (BitVec.allOnes 8) 0xF0 := BitVec.and_append.symm
    _ = w &&& 0xFFF0 := by rw [wordOf_hiByte_loByte]; rfl

end

/-- Settles O36: a write changes what it names and nothing else. -/
theorem registerFile : Obligations.RegisterFile := fun r v w =>
  ⟨fun i j => r.get8_set8_eq i j v, fun i => ⟨r.set8_f i v, r.set8_sp i v, r.set8_pc i v⟩,
    fun i j => r.get16_set16_eq i j w, fun i => ⟨r.set16_a i w, r.set16_f i w, r.set16_pc i w⟩,
    ⟨rfl, rfl, rfl, rfl⟩, r.getStack_setStack_af w, Flags.toByte_ofByte v⟩

end Sys2Proof.Machine
end

section
/-! PROOFS. What the block's registers store and read back (R33 to R51; O42): the bits that are not stored read as 1, and
STAT's mode and coincidence flag are not written. -/

namespace Sys2Proof.Machine

/-! ## The bytes that read some bits as 1 -/

/-- IF stores five bits and reads the other three as 1 (R33). -/
theorem ifByte_eq (v : Byte) : 0b111#3 ++ v.setWidth 5 = v ||| 0xE0 := by
  apply BitVec.eq_of_getLsbD_eq
  intro i hi
  simp only [BitVec.getLsbD_append]
  interval_cases i <;> simp

/-- TAC stores three bits and reads the other five as 1 (R38). -/
theorem tacByte_eq (tac : BitVec 3) : 0b11111#5 ++ tac = 0xF8 ||| tac.setWidth 8 := by
  apply BitVec.eq_of_getLsbD_eq
  intro i hi
  simp only [BitVec.getLsbD_append]
  interval_cases i <;> simp

/-- STAT takes its selectors from bits 6:3 of the byte written, and keeps its bits 2:0 (R40). -/
theorem Ppu.stat_setStatSel (p : Ppu) (v : Byte) :
    Ppu.stat { p with statSel := v.extractLsb' 3 4 } = (0x80 ||| (v &&& 0x78)) ||| (p.stat &&& 0x07) := by
  apply BitVec.eq_of_getLsbD_eq
  intro i hi
  simp only [Ppu.stat, BitVec.getLsbD_append, BitVec.getLsbD_or, BitVec.getLsbD_and]
  interval_cases i <;> simp

/-! ## Writes that do more than store -/

theorem Timer.writeTac_tac (v : Byte) (t : Timer) : (t.writeTac v).tac = v.setWidth 3 :=
  (Timer.edgeCheck_keeps { t with tac := v.setWidth 3 }).2.1

theorem writeLcdc_lcdc (v : Byte) (s : State) : (writeLcdc v s).ppu.lcdc = v := by
  unfold writeLcdc; dsimp only
  split
  · rfl
  · split <;> rfl

/-- The registers that store a byte and read it back (R41 to R50). -/
theorem byteRegister_readBack (v : Byte) (s : State) :
    ∀ a ∈ [0xFF42#16, 0xFF43#16, 0xFF45#16, 0xFF46#16, 0xFF47#16, 0xFF48#16, 0xFF49#16, 0xFF4A#16, 0xFF4B#16],
      busRead (busWrite a v s) a = v := by
  simp only [List.forall_mem_cons]
  exact ⟨rfl, rfl, rfl, rfl, rfl, rfl, rfl, rfl, rfl, List.forall_mem_nil _⟩

/-- Settles O42: at each register's address the bus reaches that register (R74), and its byte is as the rules say. -/
theorem registerReads : Obligations.RegisterReads := fun s v =>
  have hIf : busRead (busWrite 0xFF0F v s) 0xFF0F = v ||| 0xE0 := ifByte_eq v
  have hTac : busRead s 0xFF07 = 0xF8 ||| s.timer.tac.setWidth 8 := tacByte_eq s.timer.tac
  have hLcdc : busRead (busWrite 0xFF40 v s) 0xFF40 = v := writeLcdc_lcdc v s
  ⟨hIf, rfl, rfl, rfl, rfl, hTac, s.timer.writeTac_tac v, hLcdc, s.ppu.stat_setStatSel v, rfl, rfl,
    byteRegister_readBack v s, rfl, rfl⟩

end Sys2Proof.Machine
end

section
/-! PROOFS. The bus and the CPU's side of it (R71 to R83, R94; O37 to O41, O43). Each region of the address map is a range
of addresses, and in each region a bus access has one meaning. -/

namespace Sys2Proof.Machine

/-! ## The address map as ranges (R71) -/

/-- The first and the last address of a region (R71). -/
def Region.bounds : Region → Nat × Nat
  | .rom => (0x0000, 0x7FFF)
  | .vram => (0x8000, 0x9FFF)
  | .extRam => (0xA000, 0xBFFF)
  | .wram => (0xC000, 0xDFFF)
  | .echo => (0xE000, 0xFDFF)
  | .oam => (0xFE00, 0xFE9F)
  | .prohibited => (0xFEA0, 0xFEFF)
  | .io => (0xFF00, 0xFF7F)
  | .hram => (0xFF80, 0xFFFE)
  | .ie => (0xFFFF, 0xFFFF)

/-- A region holds the addresses from its first to its last. -/
def Region.Holds (n : Nat) (r : Region) : Prop := r.bounds.1 ≤ n ∧ n ≤ r.bounds.2

theorem regionOf_holds (a : Word) : (regionOf a).Holds a.toNat := by
  have hlt := a.isLt
  unfold regionOf
  repeat' refine iteInduction (motive := Region.Holds a.toNat) (fun _ => ?_) (fun _ => ?_)
  all_goals simp only [Region.Holds, Region.bounds]; omega

theorem Region.eq_of_holds {r q : Region} {n : Nat} (hr : r.Holds n) (hq : q.Holds n) : r = q := by
  unfold Region.Holds at hr hq
  cases r <;> cases q <;> simp only [Region.bounds, reduceCtorEq] at hr hq ⊢ <;> omega

/-- The regions are the ranges of R71. -/
theorem regionOf_eq_iff {a : Word} {r : Region} :
    regionOf a = r ↔ r.bounds.1 ≤ a.toNat ∧ a.toNat ≤ r.bounds.2 :=
  ⟨fun h => h ▸ regionOf_holds a, Region.eq_of_holds (regionOf_holds a)⟩

theorem regionOf_of_isRam {a : Word} (h : isRam a.toNat) :
    regionOf a = .vram ∨ regionOf a = .wram ∨ regionOf a = .oam ∨ regionOf a = .hram := by
  simpa only [regionOf_eq_iff, Region.bounds] using h

/-! ## What a bus access does in a region (R71) -/

section
variable (s : State) {a : Word}

theorem busRead_isRam (h : isRam a.toNat) : busRead s a = ramRead s a.toNat := by
  unfold busRead
  rcases regionOf_of_isRam h with e | e | e | e <;> rw [e]

theorem busWrite_isRam (h : isRam a.toNat) (v : Byte) : busWrite a v s = ramWrite a.toNat v s := by
  unfold busWrite
  rcases regionOf_of_isRam h with e | e | e | e <;> rw [e]

theorem busRead_echo (h : regionOf a = .echo) : busRead s a = ramRead s (a.toNat - 0x2000) := by
  unfold busRead; rw [h]

theorem busWrite_echo (h : regionOf a = .echo) (v : Byte) : busWrite a v s = ramWrite (a.toNat - 0x2000) v s := by
  unfold busWrite; rw [h]

theorem busRead_rom (h : regionOf a = .rom) :
    busRead s a = if inBootOverlay s a then bootRomRead s a.toNat else cartRead s a.toNat := by
  unfold busRead; rw [h]

theorem busWrite_rom (h : regionOf a = .rom) (v : Byte) : busWrite a v s = s.setEnv (s.env.cartWrite a v) := by
  unfold busWrite; rw [h]

end

/-! ## Ownership of the I/O addresses (R74) -/

/-- An address outside the owners of R74 is unclaimed (R94). -/
theorem ioRegOf_unclaimed {a : Word} (h₀ : ¬ (0xFF00 ≤ a.toNat ∧ a.toNat ≤ 0xFF02))
    (h₁ : ¬ (0xFF04 ≤ a.toNat ∧ a.toNat ≤ 0xFF07)) (h₂ : a ≠ 0xFF0F)
    (h₃ : ¬ (0xFF10 ≤ a.toNat ∧ a.toNat ≤ 0xFF3F)) (h₄ : ¬ (0xFF40 ≤ a.toNat ∧ a.toNat ≤ 0xFF4B))
    (h₅ : a ≠ 0xFF50) : ioRegOf a = .unclaimed := by
  unfold ioRegOf
  repeat rw [if_neg (by bv_omega)]

/-! ## The blocking (R82, R83) -/

theorem cpuBlocked_iff (s : State) (a : Word) :
    cpuBlocked s a = true ↔
      (s.dma.active = true ∧ ¬ (0xFF80 ≤ a.toNat ∧ a.toNat ≤ 0xFFFE)) ∨
      (s.ppu.mode = .pixelXfer ∧ 0x8000 ≤ a.toNat ∧ a.toNat ≤ 0x9FFF) ∨
      ((s.ppu.mode = .oamScan ∨ s.ppu.mode = .pixelXfer) ∧ 0xFE00 ≤ a.toNat ∧ a.toNat ≤ 0xFE9F) := by
  simp only [cpuBlocked, Bool.or_eq_true, Bool.and_eq_true, decide_eq_true_eq, ne_eq, regionOf_eq_iff, Region.bounds]
  rw [or_assoc, and_comm (b := s.ppu.mode = .pixelXfer), and_comm (b := s.ppu.mode = .oamScan ∨ _)]

section
variable {s : State} {a : Word}

theorem cpuAccess_blocked (h : cpuBlocked s a = true) (v : Byte) :
    cpuRead s a = 0xFF ∧ afterCpuRead a s = s ∧ cpuWrite a v s = s :=
  ⟨if_pos h, if_pos h, if_pos h⟩

theorem cpuAccess_open (h : ¬ cpuBlocked s a = true) (v : Byte) :
    cpuRead s a = busRead s a ∧ cpuWrite a v s = busWrite a v s :=
  ⟨if_neg h, if_neg h⟩

end

/-! ## The obligations -/

/-- Settles O37: the blocked set is the model's own, read as address ranges. -/
theorem blocking : Obligations.Blocking := fun s a v =>
  ⟨fun h => cpuAccess_blocked ((cpuBlocked_iff s a).mpr h) v,
    fun h => cpuAccess_open (fun hb => h ((cpuBlocked_iff s a).mp hb)) v⟩

/-- Settles O38: the four memories are one storage by bus address. -/
theorem plainStorage : Obligations.PlainStorage := by
  intro s a b v ha hb
  rw [busWrite_isRam s ha, busRead_isRam _ hb, busRead_isRam _ hb]
  refine ⟨?_, rfl, rfl, rfl⟩
  split
  · next h => rw [h, ramRead_ramWrite_same]
  · next h => exact ramRead_ramWrite_other (fun hn => h (BitVec.eq_of_toNat_eq hn)) v s

/-- Settles O39: the address 0x2000 lower is in WRAM. -/
theorem echoRam : Obligations.EchoRam := by
  intro s a v hlo hhi
  have hecho : regionOf a = .echo := regionOf_eq_iff.mpr ⟨hlo, hhi⟩
  have hsub : (a - 0x2000).toNat = a.toNat - 0x2000 := by bv_omega
  have hram : isRam (a - 0x2000).toNat := by rw [hsub]; exact regionOf_echo hecho
  rw [busRead_echo s hecho, busWrite_echo s hecho, busRead_isRam s hram, busWrite_isRam s hram, hsub]
  exact ⟨rfl, rfl⟩

/-- Settles O40: the region answers by itself, and no collaborator is asked. -/
theorem prohibitedRegion : Obligations.ProhibitedRegion := by
  intro s a v hlo hhi
  have hreg : regionOf a = .prohibited := regionOf_eq_iff.mpr ⟨hlo, hhi⟩
  simp [busRead, afterBusRead, busDraws, busWrite, hreg]

/-- Settles O41: the address is in the I/O region and has no owner there. -/
theorem unclaimedIo : Obligations.UnclaimedIo := by
  intro s a v hlo hhi h₀ h₁ h₂ h₃ h₄ h₅
  have hreg : regionOf a = .io := regionOf_eq_iff.mpr ⟨hlo, hhi⟩
  have hown : ioRegOf a = .unclaimed := ioRegOf_unclaimed h₀ h₁ h₂ h₃ h₄ h₅
  simp [busRead, busWrite, ioRead, ioWrite, hreg, hown]

/-- Settles O43: the overlay decides who answers a read, and not who takes a write. -/
theorem bootOverlay : Obligations.BootOverlay := by
  intro s a b v w ha
  have hreg : regionOf a = .rom := regionOf_eq_iff.mpr ⟨Nat.zero_le _, ha.trans (by simp [Region.bounds])⟩
  refine ⟨fun hmap hb => ?_, ?_, fun hb => ?_⟩
  · rw [busRead_rom s hreg]
    simp [inBootOverlay, bootRomRead, hmap, ha, hb]
  · rw [busWrite_rom s hreg]; rfl
  · have hlock : busWrite 0xFF50 w s = { s with bootMapped := false } := rfl
    rw [hlock, busRead_rom _ hreg]
    simp [inBootOverlay, cartRead, hb]

end Sys2Proof.Machine
end

section
/-! PROOFS. The decoder and the encoder (R110 to R122, R265; O1, O2, O3, O5). The encoder's rows are met with the
decoder's tables twice: by the constructors of `Instr`, and by the fields of the opcode byte. -/

namespace Sys2Proof.Machine

/-! ## From an instruction to its bytes and back (O1) -/

/-- A row of three bytes whose operand is a word, low byte first (R118). -/
theorem decode_wordRow {op : Byte} {row : Word → Instr} (hlen : lengthOf op = 3)
    (hrow : ∀ lo hi, decodeOp op lo hi = row (wordOf hi lo)) (nn : Word) (rest : List Byte) :
    decode (op :: loByte nn :: hiByte nn :: rest) = .ok (row nn, rest) := by
  simp only [decode, hlen, hrow, wordOf_hiByte_loByte]

/-- Settles O1: the rows with a word put its two bytes together again; every other row is read byte for byte. -/
theorem decodeOfEncode : Obligations.DecodeOfEncode := by
  intro i rest hwf
  cases i with
  | prefixCb c => cases hwf
  | ldBcNn nn | ldMemNnSp nn | ldDeNn nn | ldHlNn nn | ldSpNn nn | jpNzNn nn | jpNn nn | callNzNn nn | jpZNn nn
  | callZNn nn | callNn nn | jpNcNn nn | callNcNn nn | jpCNn nn | callCNn nn | ldMemNnA nn | ldAMemNn nn =>
    exact decode_wordRow rfl (fun _ _ => rfl) nn rest
  | _ => rfl

/-! ## An opcode byte is its fields (R111) -/

/-- The byte with the fields `xx yyy zzz`. -/
def opcode (x : BitVec 2) (y z : Oct) : Byte := x ++ BitVec.ofNat 3 y.toNat ++ BitVec.ofNat 3 z.toNat

theorem ofNat_toNat_octOf (v : BitVec 3) : BitVec.ofNat 3 (octOf v).toNat = v := by
  revert v; decide

theorem opcode_fields (op : Byte) : opcode (op.extractLsb' 6 2) (fieldY op) (fieldZ op) = op := by
  have hxy : op.extractLsb' 6 2 ++ op.extractLsb' 3 3 = op.extractLsb' 3 5 :=
    BitVec.extractLsb'_append_extractLsb'_eq_extractLsb' rfl
  have hxyz : op.extractLsb' 3 5 ++ op.extractLsb' 0 3 = op.extractLsb' 0 8 :=
    BitVec.extractLsb'_append_extractLsb'_eq_extractLsb' rfl
  unfold opcode fieldY fieldZ
  rw [ofNat_toNat_octOf, ofNat_toNat_octOf, hxy, hxyz, BitVec.extractLsb'_eq_self]

/-- The quarters of the two tables. -/
theorem quarter_cases (x : BitVec 2) : x = 0 ∨ x = 1 ∨ x = 2 ∨ x = 3 := by
  revert x; decide

/-! ## The decoder's rows are the encoder's rows (R119, R120) -/

/-- The encoder writes `i` as `bs`, and `i` is well formed: it is not the table's PREFIX CB row. -/
structure IsRow (bs : List Byte) (i : Instr) : Prop where
  wellFormed : i.wellFormed = true
  bytes : encode i = bs

/-- The 256 CB rows, quarter by quarter. -/
theorem decodeCb_isRow (c : Byte) : IsRow [0xCB, c] (decodeCb c) := by
  rw [← opcode_fields c]
  generalize fieldY c = y, fieldZ c = z
  rcases quarter_cases (c.extractLsb' 6 2) with hx | hx | hx | hx
  all_goals
    rw [hx]
    cases y <;> cases z <;> exact ⟨rfl, rfl⟩

/-- The bytes an instruction takes up: the opcode and, as far as it is long, the two bytes after it (R121). -/
def instrBytes (op b1 b2 : Byte) : List Byte := [op, b1, b2].take (lengthOf op)

section
variable (y z : Oct) (nn : Word)

theorem decodeX0_isRow (hstop : opcode 0 y z ≠ 0x10) :
    IsRow (instrBytes (opcode 0 y z) (loByte nn) (hiByte nn)) (decodeX0 y z (loByte nn) nn) := by
  cases z with
  | o0 =>
    cases y with
    | o2 => exact absurd rfl hstop
    | _ => exact ⟨rfl, rfl⟩
  | _ => cases y <;> exact ⟨rfl, rfl⟩

theorem decodeX1_isRow : IsRow (instrBytes (opcode 1 y z) (loByte nn) (hiByte nn)) (decodeX1 y z) := by
  cases y <;> cases z <;> exact ⟨rfl, rfl⟩

theorem decodeX2_isRow : IsRow (instrBytes (opcode 2 y z) (loByte nn) (hiByte nn)) (decodeX2 y z) := by
  cases y <;> cases z <;> exact ⟨rfl, rfl⟩

theorem decodeX3_isRow :
    IsRow (instrBytes (opcode 3 y z) (loByte nn) (hiByte nn)) (decodeX3 y z (loByte nn) nn) := by
  cases z with
  | o3 =>
    cases y with
    | o1 => exact decodeCb_isRow (loByte nn)
    | _ => exact ⟨rfl, rfl⟩
  | _ => cases y <;> exact ⟨rfl, rfl⟩

end

/-- Every opcode but STOP's starts a row of the encoder; STOP's second byte is not kept (R262). -/
theorem decodeOp_isRow {op : Byte} (hstop : op ≠ 0x10) (b1 b2 : Byte) :
    IsRow (instrBytes op b1 b2) (decodeOp op b1 b2) := by
  have hop := opcode_fields op
  have h0 := decodeX0_isRow (fieldY op) (fieldZ op) (wordOf b2 b1)
  have h1 := decodeX1_isRow (fieldY op) (fieldZ op) (wordOf b2 b1)
  have h2 := decodeX2_isRow (fieldY op) (fieldZ op) (wordOf b2 b1)
  have h3 := decodeX3_isRow (fieldY op) (fieldZ op) (wordOf b2 b1)
  rw [loByte_wordOf, hiByte_wordOf] at h0 h1 h2 h3
  unfold decodeOp
  rcases quarter_cases (op.extractLsb' 6 2) with hx | hx | hx | hx <;> rw [hx] at hop ⊢
  · rw [hop] at h0; exact h0 hstop
  · rwa [hop] at h1
  · rwa [hop] at h2
  · rwa [hop] at h3

/-! ## What the decoder reads (R110, R121; O2, O3) -/

theorem lengthTable_pos (row col : Fin 16) : 0 < lengthTable.getD (16 * row.val + col.val) 1 := by
  revert row col; decide

theorem lengthOf_pos (op : Byte) : 0 < lengthOf op := by
  have hrow : op.toNat / 16 < 16 := by omega
  have hcol : op.toNat % 16 < 16 := by omega
  have h := lengthTable_pos ⟨op.toNat / 16, hrow⟩ ⟨op.toNat % 16, hcol⟩
  rwa [Nat.div_add_mod] at h

theorem lengthOf_cases (op : Byte) : lengthOf op = 1 ∨ lengthOf op = 2 ∨ lengthOf op = 3 := by
  have hpos := lengthOf_pos op
  have hle := lengthOf_le op
  omega

theorem decode_of_short {op : Byte} {rest : List Byte} (h : rest.length + 1 < lengthOf op) :
    decode (op :: rest) = .error .truncated := by
  rcases lengthOf_cases op with hl | hl | hl <;> rw [hl] at h
  · omega
  · match rest with
    | [] => simp [decode, hl]
  · match rest with
    | [] | [_] => simp [decode, hl]

/-- Where no byte is missing, the instruction's bytes are split off the list. -/
theorem decode_of_enough {op : Byte} {rest : List Byte} (h : lengthOf op ≤ rest.length + 1) :
    ∃ b1 b2 tail, op :: rest = instrBytes op b1 b2 ++ tail ∧
      decode (op :: rest) = .ok (decodeOp op b1 b2, tail) := by
  unfold instrBytes
  rcases lengthOf_cases op with hl | hl | hl <;> rw [hl] at h ⊢
  · exact ⟨0, 0, rest, rfl, by simp [decode, hl]⟩
  · match rest with
    | b1 :: tail => exact ⟨b1, 0, tail, rfl, by simp [decode, hl]⟩
  · match rest with
    | b1 :: b2 :: tail => exact ⟨b1, b2, tail, rfl, by simp [decode, hl]⟩

theorem decode_eq_ok {bs rest : List Byte} {i : Instr} (h : decode bs = .ok (i, rest)) :
    ∃ op b1 b2, bs = instrBytes op b1 b2 ++ rest ∧ i = decodeOp op b1 b2 := by
  cases bs with
  | nil => cases h
  | cons op tail =>
    rcases Nat.lt_or_ge (tail.length + 1) (lengthOf op) with hshort | henough
    · rw [decode_of_short hshort] at h; cases h
    · obtain ⟨b1, b2, rest', hsplit, hdecode⟩ := decode_of_enough henough
      rw [hdecode] at h
      cases h
      exact ⟨op, b1, b2, hsplit, rfl⟩

/-- Settles O2: what the decoder makes of an opcode is the encoder's row of these bytes, but for STOP. -/
theorem encodeOfDecode : Obligations.EncodeOfDecode := by
  intro bs i rest h
  obtain ⟨op, b1, b2, rfl, rfl⟩ := decode_eq_ok h
  by_cases hstop : op = 0x10
  · subst hstop
    exact ⟨rfl, .inr ⟨rfl, b1, rfl⟩⟩
  · have hrow := decodeOp_isRow hstop b1 b2
    exact ⟨hrow.wellFormed, .inl (by rw [hrow.bytes])⟩

/-- Settles O3: the empty list is shorter than any instruction; after an opcode only operand bytes can be missing. -/
theorem decodeTotal : Obligations.DecodeTotal := by
  intro bs
  cases bs with
  | nil => exact ⟨fun _ => lengthOf_pos 0, fun _ => ⟨_, rfl⟩⟩
  | cons op rest =>
    rcases Nat.lt_or_ge (rest.length + 1) (lengthOf op) with hshort | henough
    · exact ⟨fun _ => hshort, fun _ => ⟨_, decode_of_short hshort⟩⟩
    · obtain ⟨b1, b2, tail, -, hdecode⟩ := decode_of_enough henough
      rw [hdecode]
      exact ⟨fun ⟨_, herror⟩ => (nomatch herror), fun hshort => absurd hshort (Nat.not_lt.mpr henough)⟩

/-! ## The PREFIX CB row (R119, R265; O5) -/

/-- The row of `c` has the meaning "execute the rule of CB row c" (R265): both split `c` by the same fields. -/
theorem exec_decodeCb (c : Byte) (s : State) : exec (decodeCb c) s = .next (cbMeaning c s) := by
  unfold decodeCb cbMeaning
  cases reg8Of (fieldZ c) with
  | some r => dsimp only; split_ifs <;> simp
  | none => dsimp only; split_ifs <;> simp

/-- Settles O5: the PREFIX CB row and the row of `c` both complete with `cbMeaning`. -/
theorem prefixIsCbRow : Obligations.PrefixIsCbRow := fun c _ s =>
  ⟨rfl, cbMeaning c s, rfl, exec_decodeCb c s⟩

end Sys2Proof.Machine
end

section
/-! PROOFS. The byte loads (R130 to R148; O16, O26) and the words written out from the spec (O4). Each row's dispatch is
one shared operation, of which Laws/Operations.lean says what it does; only the HL+ and HL− forms move a pair besides. -/

namespace Sys2Proof.Machine

/-! ## Words written out (R110 to R122; O4) -/

/-- The bytes the encoder writes decode to their instruction and leave nothing over. -/
theorem decode_of_encode_eq {i : Instr} {bs : List Byte} (hwf : i.wellFormed = true) (hbytes : encode i = bs) :
    decode bs = .ok (i, []) := by
  have h := decodeOfEncode i [] hwf
  rwa [List.append_nil, hbytes] at h

/-- Settles O4: each of the ten words is what the encoder writes for its instruction. -/
theorem decodedWords : Obligations.DecodedWords := by
  refine ⟨?_, ?_, ?_, ?_, ?_, ?_, ?_, ?_, ?_, ?_⟩ <;> exact decode_of_encode_eq rfl rfl

/-! ## The HL+ and HL− forms (R145 to R148) -/

section
variable (s : State)

/-- The access before the move leaves HL alone, so HL moves from where it stood before the instruction. -/
theorem stepHl_eq {t : State} (hhl : t.regs.hl = s.regs.hl) (k : Word) :
    stepHl k t = t.setReg16 .hl (s.regs.hl + k) := by
  rw [← hhl]; rfl

theorem stepHl_ldRegMemHl (k : Word) :
    stepHl k (ldRegMemHl .a s) = (ldRegMemHl .a s).setReg16 .hl (s.regs.hl + k) := by
  have hregs := (ldRegMemHl_does s .a).regs
  exact stepHl_eq s (by rw [hregs]; rfl) k

theorem stepHl_ldMemHlReg (k : Word) :
    stepHl k (ldMemHlReg .a s) = (ldMemHlReg .a s).setReg16 .hl (s.regs.hl + k) := by
  have hregs := (ldMemHlReg_does s .a).regs
  exact stepHl_eq s (by rw [hregs]) k

end

/-! ## The next state (O16) -/

/-- Settles O16: each row is its shared operation, which is the stated update by its definition; but in the HL+ and HL−
forms the statement moves HL from where it stood before the access. -/
theorem byteLoadResults : Obligations.ByteLoadResults := by
  unfold Obligations.ByteLoadResults
  intro s
  rw [BitVec.sub_eq_add_neg s.regs.hl 1]
  exact ⟨exec_ldRegReg s, exec_ldRegImm s, exec_ldRegMemHl s, exec_ldMemHlReg s, fun _ => rfl, rfl, rfl, rfl, rfl,
    fun _ => rfl, fun _ => rfl, rfl, rfl, fun _ => rfl, fun _ => rfl,
    congrArg Host.Outcome.next (stepHl_ldRegMemHl s (-1)), congrArg Host.Outcome.next (stepHl_ldMemHlReg s (-1)),
    congrArg Host.Outcome.next (stepHl_ldRegMemHl s 1), congrArg Host.Outcome.next (stepHl_ldMemHlReg s 1)⟩

/-! ## The frames (O26) -/

/-- An instruction whose meaning is an operation within the frames completes with that operation's frame. -/
theorem Does.completes_exec {stored : List Word} {n : Nat} {regs : Regs} {i : Instr} {s t : State}
    (h : Does stored n regs s t) (hexec : exec i s = .next t) : Completes stored n regs s (exec i s) :=
  hexec ▸ h.completes

/-- Settles O26: each row is its shared operation, whose frame Laws/Operations.lean gives. -/
theorem byteLoadFrames : Obligations.ByteLoadFrames := by
  unfold Obligations.ByteLoadFrames
  intro s
  rw [BitVec.sub_eq_add_neg s.regs.hl 1]
  exact ⟨fun dst src => (ldRegReg_does s dst src).completes_exec (exec_ldRegReg s dst src),
    fun r n => (ldRegImm_does s r n).completes_exec (exec_ldRegImm s r n),
    fun r => (ldRegMemHl_does s r).completes_exec (exec_ldRegMemHl s r),
    fun r => (ldMemHlReg_does s r).completes_exec (exec_ldMemHlReg s r),
    fun n => (ldMemHlImm_does s n).completes_exec rfl,
    (loadA_does s .bc).completes_exec rfl,
    (loadA_does s .de).completes_exec rfl,
    (storeA_does s .bc).completes_exec rfl,
    (storeA_does s .de).completes_exec rfl,
    fun nn => (ldAbsLoad_does s nn).completes_exec rfl,
    fun nn => (ldAbsStore_does s nn).completes_exec rfl,
    (ldhLoadC_does s).completes_exec rfl,
    (ldhStoreC_does s).completes_exec rfl,
    fun n => (ldhLoadImm_does s n).completes_exec rfl,
    fun n => (ldhStoreImm_does s n).completes_exec rfl,
    (loadAHl_does s (-1)).completes_exec rfl,
    (storeAHl_does s (-1)).completes_exec rfl,
    (loadAHl_does s 1).completes_exec rfl,
    (storeAHl_does s 1).completes_exec rfl⟩

end Sys2Proof.Machine
end

section
/-! PROOFS. The word loads (R150 to R155; O17, O27). Each row's dispatch is one shared operation, of which
Laws/Operations.lean says what it does; here its steps are written with SP as it stood before the instruction. -/

namespace Sys2Proof.Machine

/-! ## Stack transfers step by step (R11) -/

section
variable (s : State)

/-- Both addresses of a push by SP as it stood before it; SP moves ahead of each store. -/
theorem push16_eq (v : Word) :
    push16 v s = memWrite (s.regs.sp - 2) (loByte v)
      ((memWrite (s.regs.sp - 1) (hiByte v) (s.setSp (s.regs.sp - 1))).setSp (s.regs.sp - 2)) := by
  have hsp : s.regs.sp - 1 - 1 = s.regs.sp - 2 := by bv_omega
  simp only [push16, pushByte, memWrite_regs, State.setSp_regs, hsp]

theorem popByte_eq : popByte s = (memRead s.regs.sp s).setSp (s.regs.sp + 1) := by
  simp only [popByte, memRead_regs]

/-- Both addresses of a pop by SP as it stood before it; SP moves after each read. -/
theorem pop16_eq : pop16 s = (memRead (s.regs.sp + 1) (popByte s)).setSp (s.regs.sp + 2) := by
  have hsp : s.regs.sp + 1 + 1 = s.regs.sp + 2 := by bv_omega
  simp only [pop16, popByte_eq (popByte s), popByte_regs, hsp]

theorem popWord_eq : popWord s = wordOf (cpuRead (popByte s) (s.regs.sp + 1)) (cpuRead s s.regs.sp) := by
  simp only [popWord, popByte_regs]

/-! ## The rows (R151, R153, R154) -/

theorem ldMemNnSp_eq (nn : Word) :
    ldMemNnSp nn s = memWrite (nn + 1) (hiByte s.regs.sp) (memWrite nn (loByte s.regs.sp) s) := by
  simp only [ldMemNnSp, memWrite_regs]

/-- PUSH moves SP from where it stood before the internal M-cycle. -/
theorem push_eq (qq : StackReg) :
    push qq s = memWrite (s.regs.sp - 2) (loByte (s.regs.getStack qq))
      ((memWrite (s.regs.sp - 1) (hiByte (s.regs.getStack qq))
        ((internal s).setSp (s.regs.sp - 1))).setSp (s.regs.sp - 2)) := by
  simp only [push, push16_eq, internal_regs]

theorem pop_eq (qq : StackReg) :
    pop qq s = ((memRead (s.regs.sp + 1) (popByte s)).setSp (s.regs.sp + 2)).setStack qq
      (wordOf (cpuRead (popByte s) (s.regs.sp + 1)) (cpuRead s s.regs.sp)) := by
  rw [pop, pop16_eq, popWord_eq]

end

/-! ## The next state (O17) -/

/-- Settles O17: the loads that access no memory are the stated update by definition; in the others SP is read again
after an M-cycle, which leaves it alone. -/
theorem wordLoadResults : Obligations.WordLoadResults := by
  unfold Obligations.WordLoadResults
  intro s
  refine ⟨exec_ldReg16Imm s, fun nn => congrArg Host.Outcome.next (ldMemNnSp_eq s nn), rfl, fun _ => rfl,
    fun qq => ⟨_, _, rfl, rfl, ?push⟩, fun qq => ⟨_, _, rfl, rfl, ?pop⟩⟩
  case push => rw [exec_pushReg, push_eq]
  case pop => rw [exec_popReg, pop_eq, popByte_eq]

/-! ## The frames (O27) -/

/-- Settles O27: each row is its shared operation, whose frame Laws/Operations.lean gives. -/
theorem wordLoadFrames : Obligations.WordLoadFrames := by
  unfold Obligations.WordLoadFrames
  intro s
  exact ⟨fun rr nn => (ldReg16Imm_does s rr nn).completes_exec (exec_ldReg16Imm s rr nn),
    fun nn => (ldMemNnSp_does s nn).completes_exec rfl,
    (ldSpHl_does s).completes_exec rfl,
    fun e => (ldHlSp_does s e).completes_exec rfl,
    fun qq => (push_does s qq).completes_exec (exec_pushReg s qq),
    fun qq => (pop_does s qq).completes_exec (exec_popReg s qq)⟩

end Sys2Proof.Machine
end

section
/-! PROOFS. The byte and word arithmetic (R160 to R204; O18, O28). Each row's dispatch is one shared operation, of which
Laws/Operations.lean says what it does; the ALU families share one form of the registers they leave, `aluRegs`. -/

namespace Sys2Proof.Machine

/-! ## The next state (O18) -/

section
variable (s : State)

/-- An ALU operation writes registers alone, in all three forms (R161 to R184). -/
theorem aluApply_eq (op : AluOp) (v : Byte) : aluApply op v s = { s with regs := aluRegs op v s.regs } := by
  rw [aluApply_only, aluApply_regs]

/-- The `(HL)` forms take A and Cy as they stood before the read. -/
theorem aluMemHl_eq (op : AluOp) :
    aluMemHl op s = { memRead s.regs.hl s with regs := aluRegs op (cpuRead s s.regs.hl) s.regs } := by
  rw [aluMemHl, aluApply_eq, memRead_regs]

end

/-- Settles O18: the three ALU forms leave `aluRegs`, and every other row is the stated update by its definition. -/
theorem byteAluResults : Obligations.ByteAluResults := by
  unfold Obligations.ByteAluResults
  intro s
  refine ⟨fun op r => ?aluReg, fun op => ?aluMemHl, fun op n => ?aluImm, exec_incReg s, exec_decReg s,
    ?incMemHl, ?decMemHl, rfl, rfl, rfl, rfl⟩
  case aluReg => rw [exec_aluReg, aluReg, aluApply_eq]; rfl
  case aluMemHl => rw [exec_aluMemHl, aluMemHl_eq]; rfl
  case aluImm => rw [exec_aluImm, aluImm, aluApply_eq]; rfl
  case incMemHl => rintro v rfl; rfl
  case decMemHl => rintro v rfl; rfl

/-! ## The frames (O28) -/

/-- An instruction that leaves `aluRegs` changes A and F alone among the registers, and CP leaves A too (R182). -/
theorem Does.completes_alu {stored : List Word} {n : Nat} {op : AluOp} {v : Byte} {i : Instr} {s t : State}
    (h : Does stored n (aluRegs op v s.regs) s t) (hexec : exec i s = .next t) :
    ∃ a f, (op = .cp → a = s.regs.a) ∧ Completes stored n { s.regs with a := a, f := f } s (exec i s) :=
  ⟨if op = .cp then s.regs.a else (alu op s.regs.a v s.regs.f.c).res, (alu op s.regs.a v s.regs.f.c).flags,
    fun hcp => if_pos hcp, h.completes_exec hexec⟩

/-! The flags the rules keep (R185 to R189, R201). -/

theorem incByte_c (v : Byte) (f : Flags) : (incByte v f).flags.c = f.c := rfl
theorem decByte_c (v : Byte) (f : Flags) : (decByte v f).flags.c = f.c := rfl
theorem daaByte_n (v : Byte) (f : Flags) : (daaByte v f).flags.n = f.n := rfl
theorem addHlFlags_z (a v : Word) (f : Flags) : (addHlFlags a v f).z = f.z := rfl

/-- Settles O28: each row is its shared operation, whose frame Laws/Operations.lean gives. -/
theorem arithmeticFrames : Obligations.ArithmeticFrames := by
  unfold Obligations.ArithmeticFrames
  intro s
  exact ⟨fun op r => (aluReg_does s op r).completes_alu (exec_aluReg s op r),
    fun op => (aluMemHl_does s op).completes_alu (exec_aluMemHl s op),
    fun op n => (aluImm_does s op n).completes_alu (exec_aluImm s op n),
    fun r => ⟨_, _, incByte_c _ _,
      (setRegOut_does s r (incByte (s.regs.get8 r) s.regs.f)).completes_exec (exec_incReg s r)⟩,
    fun r => ⟨_, _, decByte_c _ _,
      (setRegOut_does s r (decByte (s.regs.get8 r) s.regs.f)).completes_exec (exec_decReg s r)⟩,
    ⟨_, incByte_c _ _, (modifyMemHl_does s incByte).completes_exec rfl⟩,
    ⟨_, decByte_c _ _, (modifyMemHl_does s decByte).completes_exec rfl⟩,
    ⟨_, _, daaByte_n _ _, (setAcc_does s (daaByte s.regs.a s.regs.f)).completes_exec rfl⟩,
    (cpl_does s).completes_exec rfl,
    (scf_does s).completes_exec rfl,
    (ccf_does s).completes_exec rfl,
    fun rr => ⟨_, addHlFlags_z _ _ _, (addHl_does s rr).completes_exec (exec_addHlReg16 s rr)⟩,
    fun rr => (incReg16_does s rr).completes_exec (exec_incReg16 s rr),
    fun rr => (decReg16_does s rr).completes_exec (exec_decReg16 s rr),
    fun e => (addSp_does s e).completes_exec rfl⟩

end Sys2Proof.Machine
end

section
/-! PROOFS. The 8-bit ALU law and DAA as arithmetic (R160, R189; O31, O32). The result and flags of a sum or a difference
are facts about its operands as numbers; those of DAA are facts about their decimal digits. -/

namespace Sys2Proof.Machine

/-! ## The rows of the ALU law as numbers (R160) -/

section
variable (a v : Byte) (cin : Bool)

theorem carryNat_le : carryNat cin ≤ 1 := by cases cin <;> decide

theorem aluSum_res_toNat : (aluSum a v cin).res.toNat = (a.toNat + v.toNat + carryNat cin) % 256 :=
  BitVec.toNat_ofNat _ _

theorem aluSum_h : (aluSum a v cin).flags.h = true ↔ a.toNat % 16 + v.toNat % 16 + carryNat cin > 0xF :=
  decide_eq_true_iff

theorem aluSum_c : (aluSum a v cin).flags.c = true ↔ a.toNat + v.toNat + carryNat cin > 0xFF :=
  decide_eq_true_iff

theorem aluDiff_res_toNat :
    ((aluDiff a v cin).res.toNat : Int) = ((a.toNat : Int) - v.toNat - carryNat cin) % 256 := by
  have hpos : 0 ≤ ((a.toNat : Int) - v.toNat - carryNat cin) % 256 := Int.emod_nonneg _ (by decide)
  exact (congrArg Int.ofNat (BitVec.toNat_ofInt _)).trans (Int.toNat_of_nonneg hpos)

theorem aluDiff_h : (aluDiff a v cin).flags.h = true ↔ a.toNat % 16 < v.toNat % 16 + carryNat cin :=
  decide_eq_true_iff

theorem aluDiff_c : (aluDiff a v cin).flags.c = true ↔ a.toNat < v.toNat + carryNat cin :=
  decide_eq_true_iff

/-- Every row takes Z from its result. -/
theorem alu_z (op : AluOp) : (alu op a v cin).flags.z = true ↔ (alu op a v cin).res = 0 := by
  cases op <;> exact decide_eq_true_iff

end

/-- Settles O31: the sum, difference and logical rows by their laws; ADD, SUB and CP take no carry in. -/
theorem aluLaw : Obligations.AluLaw := by
  unfold Obligations.AluLaw
  intro op a v cin c o
  refine ⟨alu_z a v cin op, ?add, ?adc, ?subCp, ?sbc, ?and, ?xor, ?or⟩
  case add => rintro rfl; exact ⟨aluSum_res_toNat a v false, rfl, aluSum_h a v false, aluSum_c a v false⟩
  case adc => rintro rfl; exact ⟨aluSum_res_toNat a v cin, rfl, aluSum_h a v cin, aluSum_c a v cin⟩
  case subCp =>
    have hres := aluDiff_res_toNat a v false
    rw [carryNat, if_neg Bool.false_ne_true, Nat.cast_zero, sub_zero] at hres
    rintro (rfl | rfl) <;> exact ⟨hres, rfl, aluDiff_h a v false, aluDiff_c a v false⟩
  case sbc => rintro rfl; exact ⟨aluDiff_res_toNat a v cin, rfl, aluDiff_h a v cin, aluDiff_c a v cin⟩
  case and | xor | or => rintro rfl; exact ⟨rfl, rfl, rfl, rfl⟩

/-! ## DAA digit by digit (R189) -/

theorem carryNat_of_iff {b : Bool} {p : Prop} [Decidable p] (h : b = true ↔ p) : carryNat b = if p then 1 else 0 :=
  if_congr h rfl rfl

/-- Whether DAA corrects the units digit. -/
def daaUnits (a : Byte) (f : Flags) : Bool := f.h || (!f.n && decide (nibble a > 9))

section
variable (a : Byte) (f : Flags)

/-- Each digit's correction is 6 in the digit's place; the tens are corrected exactly when DAA leaves Cy set. -/
theorem daaCorrection_toNat :
    (daaCorrection a f).toNat = 6 * carryNat (daaUnits a f) + 0x60 * carryNat (daaByte a f).flags.c := by
  unfold daaCorrection daaByte daaUnits
  dsimp only
  generalize (f.h || _) = units, (f.c || _) = tens
  cases units <;> cases tens <;> rfl

variable {a f}

theorem daaByte_res_of_add (h : f.n = false) :
    (daaByte a f).res.toNat = (a.toNat + (daaCorrection a f).toNat) % 256 := by
  rw [daaByte, h]
  exact BitVec.toNat_add a (daaCorrection a f)

theorem daaByte_res_of_sub (h : f.n = true) :
    (daaByte a f).res.toNat = (256 - (daaCorrection a f).toNat + a.toNat) % 256 := by
  rw [daaByte, h]
  exact BitVec.toNat_sub a (daaCorrection a f)

theorem daaUnits_of_add (h : f.n = false) : daaUnits a f = true ↔ f.h = true ∨ a.toNat % 16 > 9 := by
  simp [daaUnits, h, nibble]

theorem daaUnits_of_sub (h : f.n = true) : daaUnits a f = f.h := by simp [daaUnits, h]

theorem daaByte_c_of_add (h : f.n = false) : (daaByte a f).flags.c = true ↔ f.c = true ∨ a.toNat > 0x99 := by
  simp [daaByte, h]

theorem daaByte_c_of_sub (h : f.n = true) : (daaByte a f).flags.c = f.c := by simp [daaByte, h]

end

theorem bcd_toNat {x : Nat} (hx : x < 100) : (bcd x).toNat = 16 * (x / 10) + x % 10 := by
  rw [bcd, BitVec.toNat_ofNat, Nat.mod_eq_of_lt (by omega)]

/-! ## After ADC and SBC of two decimal bytes (O32) -/

section
variable {x y : Nat} {cin : Bool} {o : AluOut} (hx : x < 100) (hy : y < 100)

section
variable (ho : o = aluSum (bcd x) (bcd y) cin)
include hx hy ho

/-- After ADC the units digit is corrected exactly when its decimal sum carries. -/
theorem daaUnits_of_bcd_sum : daaUnits o.res o.flags = true ↔ x % 10 + y % 10 + carryNat cin > 9 := by
  subst ho
  have hc := carryNat_le cin
  rw [daaUnits_of_add rfl, aluSum_h, aluSum_res_toNat, bcd_toNat hx, bcd_toNat hy]
  omega

theorem daaByte_c_of_bcd_sum : (daaByte o.res o.flags).flags.c = true ↔ x + y + carryNat cin ≥ 100 := by
  subst ho
  have hc := carryNat_le cin
  have hbinary (n : Nat) : n > 0xFF ∨ n % 256 > 0x99 ↔ n > 0x99 := by omega
  rw [daaByte_c_of_add rfl, aluSum_c, aluSum_res_toNat, bcd_toNat hx, bcd_toNat hy, hbinary]
  omega

theorem daaByte_res_of_bcd_sum : (daaByte o.res o.flags).res = bcd ((x + y + carryNat cin) % 100) := by
  have hc := carryNat_le cin
  have hunits := carryNat_of_iff (daaUnits_of_bcd_sum hx hy ho)
  have htens := carryNat_of_iff (daaByte_c_of_bcd_sum hx hy ho)
  subst ho
  apply BitVec.eq_of_toNat_eq
  rw [daaByte_res_of_add rfl, daaCorrection_toNat, hunits, htens, aluSum_res_toNat, bcd_toNat hx, bcd_toNat hy,
    bcd_toNat (Nat.mod_lt _ (by decide))]
  split_ifs <;> omega

end

section
variable (ho : o = aluDiff (bcd x) (bcd y) cin)
include hx hy ho

/-- After SBC the units digit is corrected exactly when its decimal difference borrows. -/
theorem daaUnits_of_bcd_diff : daaUnits o.res o.flags = true ↔ x % 10 < y % 10 + carryNat cin := by
  subst ho
  rw [daaUnits_of_sub rfl, aluDiff_h, bcd_toNat hx, bcd_toNat hy]
  omega

theorem daaByte_c_of_bcd_diff : (daaByte o.res o.flags).flags.c = true ↔ x < y + carryNat cin := by
  subst ho
  have hc := carryNat_le cin
  rw [daaByte_c_of_sub rfl, aluDiff_c, bcd_toNat hx, bcd_toNat hy]
  omega

theorem daaByte_res_of_bcd_diff : (daaByte o.res o.flags).res = bcd ((x + 100 - y - carryNat cin) % 100) := by
  have hc := carryNat_le cin
  have hunits := carryNat_of_iff (daaUnits_of_bcd_diff hx hy ho)
  have htens := carryNat_of_iff (daaByte_c_of_bcd_diff hx hy ho)
  have hdiff := aluDiff_res_toNat (bcd x) (bcd y) cin
  rw [bcd_toNat hx, bcd_toNat hy, ← ho] at hdiff
  have hn : o.flags.n = true := by subst ho; rfl
  apply BitVec.eq_of_toNat_eq
  rw [daaByte_res_of_sub hn, daaCorrection_toNat, hunits, htens, bcd_toNat (Nat.mod_lt _ (by decide))]
  split_ifs <;> omega

end

end

/-- Settles O32: DAA corrects each digit exactly when that digit carries or borrows in decimal. -/
theorem daaIsDecimal : Obligations.DaaIsDecimal := by
  unfold Obligations.DaaIsDecimal
  intro x y cin hx hy c sum diff
  exact ⟨daaByte_res_of_bcd_sum hx hy rfl, daaByte_c_of_bcd_sum hx hy rfl, daaByte_res_of_bcd_diff hx hy rfl,
    daaByte_c_of_bcd_diff hx hy rfl⟩

end Sys2Proof.Machine
end

section
/-! PROOFS. The word arithmetic (R200 to R204; O19, O34). Each row's dispatch is one shared operation; the sum both
callers of AddSpE leave, and its two carries, are facts about the operands as numbers. -/

namespace Sys2Proof.Machine

/-! ## The next state (O19) -/

/-- Settles O19: each row is its shared operation, which is the stated update by definition. -/
theorem wordAluResults : Obligations.WordAluResults := by
  unfold Obligations.WordAluResults
  intro s
  exact ⟨exec_addHlReg16 s, exec_incReg16 s, exec_decReg16 s, fun _ => rfl⟩

/-! ## AddSpE as numbers (R200) -/

section
variable (sp : Word) (e : Byte)

/-- The offset is the signed value of `e`, modulo 2^16. -/
theorem sext16_toNat : ((sext16 e).toNat : Int) = e.toInt % 65536 := by
  rw [sext16, BitVec.signExtend, BitVec.toNat_ofInt]
  exact Int.toNat_of_nonneg (Int.emod_nonneg _ (by decide))

theorem addSpE_toNat : ((addSpE sp e).toNat : Int) = (sp.toNat + e.toInt) % 65536 := by
  have hoffset := sext16_toNat e
  rw [addSpE, BitVec.toNat_add]
  omega

theorem addSpEFlags_h : (addSpEFlags sp e).h = true ↔ sp.toNat % 16 + e.toNat % 16 > 0xF := decide_eq_true_iff

theorem addSpEFlags_c : (addSpEFlags sp e).c = true ↔ sp.toNat % 256 + e.toNat > 0xFF := decide_eq_true_iff

end

/-- HL reads back the word last written to it (R21). -/
@[simp] theorem Regs.hl_set16 (r : Regs) (v : Word) : (r.set16 .hl v).hl = v := wordOf_hiByte_loByte v

/-! ## The two callers (O34) -/

/-- Settles O34: both rows leave the one sum and the one set of flags, whose laws are those above. -/
theorem addSpELaw : Obligations.AddSpELaw := by
  unfold Obligations.AddSpELaw
  intro s e
  refine ⟨addSp e s, ldHlSp e s, rfl, rfl, ?_⟩
  rw [(addSp_does s e).regs, (ldHlSp_does s e).regs]
  exact ⟨addSpE_toNat s.regs.sp e, Regs.hl_set16 s.regs _, rfl, addSpEFlags_h s.regs.sp e, addSpEFlags_c s.regs.sp e,
    rfl, rfl⟩

end Sys2Proof.Machine
end

section
/-! PROOFS. The rotates, the shifts and the bit operations (R210 to R235; O20, O29, O33). Each row's dispatch is one
shared operation, of which Laws/Operations.lean says what it does; bit by bit, each rotate and shift by one place is one
of two moves, which differ in the bit that comes in. -/

namespace Sys2Proof.Machine

/-! ## The next state (O20) -/

/-- Settles O20: each row is its shared operation, which is the stated update by definition once the result is named. -/
theorem rotateShiftResults : Obligations.RotateShiftResults := by
  unfold Obligations.RotateShiftResults
  intro s
  refine ⟨rfl, rfl, rfl, rfl, ?shiftReg, ?shiftMemHl⟩
  case shiftReg => rintro op r _ rfl; exact exec_shiftReg s op r
  case shiftMemHl => rintro op _ rfl; exact exec_shiftMemHl s op

/-! ## The frames (O29) -/

/-- The rotates of A are the A-writing operation with the rotated byte (R210 to R213). -/
theorem rotateA_does (s : State) (op : ShiftOp) :
    Does [] 0 { s.regs with
      a := (rotateAByte op s.regs.a s.regs.f).res, f := (rotateAByte op s.regs.a s.regs.f).flags } s (rotateA op s) :=
  setAcc_does s (rotateAByte op s.regs.a s.regs.f)

/-- The four rows of the main table that rotate A. -/
theorem exec_rotateA {i : Instr} (hi : i ∈ [Instr.rlca, .rrca, .rla, .rra]) (s : State) :
    ∃ op, exec i s = .next (rotateA op s) := by
  simp only [List.mem_cons, List.not_mem_nil, or_false] at hi
  obtain rfl | rfl | rfl | rfl := hi
  · exact ⟨.rlc, rfl⟩
  · exact ⟨.rrc, rfl⟩
  · exact ⟨.rl, rfl⟩
  · exact ⟨.rr, rfl⟩

/-- BIT keeps Cy (R230, R231). -/
theorem bitFlags_c (b : Oct) (v : Byte) (f : Flags) : (bitFlags b v f).c = f.c := rfl

/-- Settles O29: each row is its shared operation, whose frame Laws/Operations.lean gives. -/
theorem rotateBitFrames : Obligations.RotateBitFrames := by
  unfold Obligations.RotateBitFrames
  intro s
  refine ⟨fun i hi => ?rotateA,
    fun op r => ⟨_, _, (setRegOut_does s r (shiftByte op (s.regs.get8 r) s.regs.f)).completes_exec
      (exec_shiftReg s op r)⟩,
    fun op => ⟨_, (modifyMemHl_does s (shiftByte op)).completes_exec (exec_shiftMemHl s op)⟩,
    fun b r => ⟨_, bitFlags_c b _ _, (bitReg_does s b r).completes_exec (exec_bitReg s b r)⟩,
    fun b => ⟨_, bitFlags_c b _ _, (bitMemHl_does s b).completes_exec (exec_bitMemHl s b)⟩,
    fun b r => ⟨_, (resReg_does s b r).completes_exec (exec_resReg s b r)⟩,
    fun b r => ⟨_, (setReg_does s b r).completes_exec (exec_setReg s b r)⟩,
    fun b => (resMemHl_does s b).completes_exec (exec_resMemHl s b),
    fun b => (setMemHl_does s b).completes_exec (exec_setMemHl s b)⟩
  case rotateA =>
    obtain ⟨op, hexec⟩ := exec_rotateA hi s
    exact ⟨_, _, (rotateA_does s op).completes_exec hexec⟩

/-! ## The two moves by one place -/

theorem getLsbD_bit0 (c : Bool) (i : Nat) : (bit0 c).getLsbD i = (decide (i = 0) && c) := by
  cases c
  · simp [bit0]
  · simp [bit0, BitVec.getLsbD_one]

section
variable (v : Byte) (cin : Bool) {i : Nat} (hi : i < 8)
include hi

/-- One place up, with `cin` coming in at bit 0. -/
theorem getLsbD_moveUp : (v <<< 1 ||| bit0 cin).getLsbD i = if i = 0 then cin else v.getLsbD (i - 1) := by
  rw [BitVec.getLsbD_or, BitVec.getLsbD_shiftLeft, getLsbD_bit0]
  by_cases h : i = 0
  · simp [h]
  · simp [h, hi]

/-- One place down, with `cin` coming in at bit 7. -/
theorem getLsbD_moveDown :
    (v >>> 1 ||| bit0 cin <<< 7).getLsbD i = if i = 7 then cin else v.getLsbD (i + 1) := by
  rw [BitVec.getLsbD_or, BitVec.getLsbD_ushiftRight, BitVec.getLsbD_shiftLeft, getLsbD_bit0, Nat.add_comm 1 i]
  by_cases h : i = 7
  · simp [h]
  · have hlt : i < 7 := by omega
    simp [h, hlt]

end

/-! ## The operations as these moves (R222, R224, R226, R228) -/

theorem shiftResult_sla (v : Byte) (cin : Bool) : shiftResult .sla v cin = v <<< 1 ||| bit0 false := by
  simp [shiftResult, bit0]

theorem shiftResult_srl (v : Byte) (cin : Bool) : shiftResult .srl v cin = v >>> 1 ||| bit0 false <<< 7 := by
  simp [shiftResult, bit0]

/-- SRA lets bit 7 itself come in. -/
theorem shiftResult_sra (v : Byte) (cin : Bool) :
    shiftResult .sra v cin = v >>> 1 ||| bit0 (v.getLsbD 7) <<< 7 := by
  have hmask : v &&& (0x80 : Byte) = bit0 (v.getLsbD 7) <<< 7 := by
    rw [show (0x80 : Byte) = BitVec.twoPow 8 7 from rfl, BitVec.and_twoPow]
    cases v.getLsbD 7 <;> rfl
  rw [shiftResult, hmask]

/-- SWAP is the rotation by four places. -/
theorem getLsbD_swap (v : Byte) (cin : Bool) {i : Nat} (hi : i < 8) :
    (shiftResult .swap v cin).getLsbD i = v.getLsbD ((i + 4) % 8) := by
  have hrotate : shiftResult .swap v cin = v.rotateLeft 4 := rfl
  rw [hrotate, BitVec.getLsbD_rotateLeft]
  by_cases h : i < 4
  · have hindex : (i + 4) % 8 = 4 + i := by omega
    simp [h, hindex]
  · have hindex : (i + 4) % 8 = i - 4 := by omega
    simp [h, hi, hindex]

/-! ## RES and SET (R232 to R235) -/

section
variable (b : Oct) (v : Byte) {i : Nat} (hi : i < 8)
include hi

/-- The mask of both has the one bit set (R232, R234). -/
theorem getLsbD_oneShl (n : Nat) : ((1 : Byte) <<< n).getLsbD i = decide (i = n) := by
  rw [show (1 : Byte) <<< n = BitVec.twoPow 8 n from rfl, BitVec.getLsbD_twoPow]
  by_cases h : i = n
  · simp [← h, hi]
  · simp [h, Ne.symm h]

theorem getLsbD_resByte : (resByte b v).getLsbD i = if i = b.toNat then false else v.getLsbD i := by
  rw [resByte, BitVec.getLsbD_and, BitVec.getLsbD_not, getLsbD_oneShl hi]
  by_cases h : i = b.toNat
  · simp [h]
  · simp [h, hi]

theorem getLsbD_setByte : (setByte b v).getLsbD i = if i = b.toNat then true else v.getLsbD i := by
  rw [setByte, BitVec.getLsbD_or, getLsbD_oneShl hi]
  by_cases h : i = b.toNat <;> simp [h]

end

/-! ## The bit law (O33) -/

/-- In a rotation the bit that comes in is the one moved out at the other end (R214, R216). -/
theorem rotateUp_index {i : Nat} (hi : i < 8) : (i + 7) % 8 = if i = 0 then 7 else i - 1 := by
  split <;> omega

theorem rotateDown_index {i : Nat} (hi : i < 8) : (i + 1) % 8 = if i = 7 then 0 else i + 1 := by
  split <;> omega

/-- Settles O33: RLC, RL and SLA are the move up, RRC, RR, SRA and SRL the move down, by the bit that comes in. -/
theorem shiftBits : Obligations.ShiftBits := by
  unfold Obligations.ShiftBits
  intro v cin i hi
  refine ⟨?rlc, ?rrc, getLsbD_moveUp v cin hi, getLsbD_moveDown v cin hi, ?sla, ?sra, getLsbD_swap v cin hi, ?srl,
    ?carryUp, ?carryDown, rfl, fun b => ⟨getLsbD_resByte b v hi, getLsbD_setByte b v hi⟩⟩
  case rlc => rw [rotateUp_index hi, apply_ite v.getLsbD]; exact getLsbD_moveUp v _ hi
  case rrc => rw [rotateDown_index hi, apply_ite v.getLsbD]; exact getLsbD_moveDown v _ hi
  case sla => rw [shiftResult_sla, getLsbD_moveUp v _ hi]
  case sra => rw [shiftResult_sra, getLsbD_moveDown v _ hi]
  case srl => rw [shiftResult_srl, getLsbD_moveDown v _ hi]
  case carryUp => simp [shiftCarry]
  case carryDown => simp [shiftCarry]

end Sys2Proof.Machine
end

section
/-! PROOFS. The bit operations (R230 to R235; O21). Each row's dispatch is one shared operation. -/

namespace Sys2Proof.Machine

/-- Settles O21: for every bit and register the row is its shared operation, which is the stated update by
definition. -/
theorem bitResults : Obligations.BitResults := by
  unfold Obligations.BitResults
  intro s
  exact ⟨exec_bitReg s, exec_bitMemHl s, exec_resReg s, exec_setReg s, exec_resMemHl s, exec_setMemHl s⟩

end Sys2Proof.Machine
end

section
/-! PROOFS. The control transfers (R240 to R251; O22, O23, O30, O35). Each row's dispatch is one shared operation, of
which Laws/Operations.lean says what it does; a conditional row is one of two operations, by its condition. -/

namespace Sys2Proof.Machine

/-! ## The conditional rows (R242, R245, R247, R249) -/

/-- Two operations, of which the condition chooses one. -/
theorem Does.ite {p : Prop} [Decidable p] {l₁ l₂ : List Word} {n₁ n₂ : Nat} {r₁ r₂ : Regs} {s t₁ t₂ : State}
    (h₁ : Does l₁ n₁ r₁ s t₁) (h₂ : Does l₂ n₂ r₂ s t₂) :
    Does (if p then l₁ else l₂) (if p then n₁ else n₂) (if p then r₁ else r₂) s (if p then t₁ else t₂) := by
  by_cases hp : p
  · simpa only [if_pos hp] using h₁
  · simpa only [if_neg hp] using h₂

section
variable (s : State) (cc : Cond)

theorem jpCond_does (nn : Word) :
    Does [] (if s.regs.f.holds cc then 1 else 0) (if s.regs.f.holds cc then { s.regs with pc := nn } else s.regs) s
      (jpCond cc nn s) := by
  have h := (jp_does s nn).ite (p := s.regs.f.holds cc) (Does.refl s)
  rwa [ite_self] at h

theorem jrCond_does (e : Byte) :
    Does [] (if s.regs.f.holds cc then 1 else 0)
      (if s.regs.f.holds cc then { s.regs with pc := s.regs.pc + sext16 e } else s.regs) s (jrCond cc e s) := by
  have h := (jr_does s e).ite (p := s.regs.f.holds cc) (Does.refl s)
  rwa [ite_self] at h

theorem callCond_does (nn : Word) :
    Does (if s.regs.f.holds cc then [s.regs.sp - 1, s.regs.sp - 2] else []) (if s.regs.f.holds cc then 3 else 0)
      (if s.regs.f.holds cc then { s.regs with sp := s.regs.sp - 2, pc := nn } else s.regs) s (callCond cc nn s) :=
  (call_does s nn).ite (Does.refl s)

/-- The internal M-cycle before the test leaves the flags alone, so the test may read them before it. -/
theorem retCond_eq : retCond cc s = if s.regs.f.holds cc then ret (internal s) else internal s := by
  rw [← internal_regs s]; rfl

theorem retCond_does :
    Does [] (if s.regs.f.holds cc then 4 else 1)
      (if s.regs.f.holds cc then { s.regs with sp := s.regs.sp + 2, pc := popWord (internal s) } else s.regs) s
      (retCond cc s) := by
  have hret := (internal_does s).trans (ret_does (internal s))
  rw [internal_regs] at hret
  have h := hret.ite (p := s.regs.f.holds cc) (internal_does s)
  rwa [List.append_nil, ite_self, ← retCond_eq] at h

end

/-! ## The frames (O30) -/

/-- Settles O30: each row is its shared operation or, for a condition, one of two. -/
theorem controlFrames : Obligations.ControlFrames := by
  unfold Obligations.ControlFrames
  intro s
  exact ⟨fun nn => (jp_does s nn).completes_exec rfl,
    fun cc nn => (jpCond_does s cc nn).completes_exec (exec_jpCond s cc nn),
    (jpHl_does s).completes_exec rfl,
    fun e => (jr_does s e).completes_exec rfl,
    fun cc e => (jrCond_does s cc e).completes_exec (exec_jrCond s cc e),
    fun nn => (call_does s nn).completes_exec rfl,
    fun cc nn => (callCond_does s cc nn).completes_exec (exec_callCond s cc nn),
    fun t => (call_does s (rstTarget t)).completes_exec (exec_rst s t),
    (ret_does s).completes_exec rfl,
    fun cc => (retCond_does s cc).completes_exec (exec_retCond s cc)⟩

/-! ## The next state (O22) -/

/-- Settles O22: each row is the stated update by definition, but that RET cc tests the flags after its internal
M-cycle. -/
theorem controlResults : Obligations.ControlResults := by
  unfold Obligations.ControlResults
  intro s
  refine ⟨fun _ => rfl, exec_jpCond s, rfl, fun _ => rfl, exec_jrCond s, fun _ => rfl, exec_callCond s, exec_rst s,
    rfl, fun cc => ?retCond⟩
  case retCond => rw [exec_retCond, retCond_eq]; rfl

/-! ## RETI (R250, R291; O23) -/

/-- RETI is RET and then IME. -/
theorem reti_eq (s : State) : reti s = (ret s).setLatch { (ret s).latch with ime := true } := rfl

/-- Settles O23: what RET does, with IME set in its last state. -/
theorem retiReturns : Obligations.RetiReturns := by
  unfold Obligations.RetiReturns
  intro s
  have hret := ret_does s
  obtain ⟨hlatch, -⟩ := hret.latch
  refine ⟨reti s, rfl, hret.regs, rfl, ?imePending, ?halted, ?haltBug, ?locked, hret.cycles,
    fun hs => (hret.memory hs).trans (.of_cpu rfl)⟩
  all_goals rw [reti_eq, State.setLatch_latch, hlatch]

/-! ## The conditions (R240; O35) -/

/-- An instruction within the frames keeps F where the registers it leaves do. -/
theorem Does.exec_keeps_f {stored : List Word} {n : Nat} {regs : Regs} {i : Instr} {s t : State}
    (h : Does stored n regs s t) (hexec : exec i s = .next t) (hf : regs.f = s.regs.f) :
    ∃ t, exec i s = .next t ∧ t.regs.f = s.regs.f :=
  ⟨t, hexec, by rw [h.regs, hf]⟩

/-- Registers that keep F when the condition holds keep it in either case. -/
theorem Regs.ite_f {p : Prop} [Decidable p] {r r' : Regs} (h : r'.f = r.f) : (if p then r' else r).f = r.f := by
  rw [apply_ite Regs.f, h, ite_self]

/-- Settles O35: the predicates and the decoder's rows by their definitions; F is outside the registers a control
transfer writes. -/
theorem conditions : Obligations.Conditions := by
  unfold Obligations.Conditions
  refine ⟨fun f => ⟨?nz, Iff.rfl, ?nc, Iff.rfl⟩, fun p hp lo hi rest => ?rows, fun cc nn e s i hi => ?flags⟩
  case nz | nc => rw [Flags.holds, Bool.not_eq_true']
  case rows =>
    simp only [List.mem_cons, List.not_mem_nil, or_false] at hp
    obtain rfl | rfl | rfl | rfl := hp <;> exact ⟨rfl, rfl, rfl, rfl⟩
  case flags =>
    simp only [List.mem_cons, List.not_mem_nil, or_false] at hi
    obtain rfl | rfl | rfl | rfl := hi
    · exact (jpCond_does s cc nn).exec_keeps_f (exec_jpCond s cc nn) (Regs.ite_f rfl)
    · exact (jrCond_does s cc e).exec_keeps_f (exec_jrCond s cc e) (Regs.ite_f rfl)
    · exact (callCond_does s cc nn).exec_keeps_f (exec_callCond s cc nn) (Regs.ite_f rfl)
    · exact (retCond_does s cc).exec_keeps_f (exec_retCond s cc) (Regs.ite_f rfl)

end Sys2Proof.Machine
end

section
/-! PROOFS. NOP, HALT, STOP, DI, EI and the undefined opcodes (R260 to R266; O24, O25). -/

namespace Sys2Proof.Machine

/-- Settles O24: HALT's test is the negation of what makes it halt. -/
theorem haltResult : Obligations.HaltResult := by
  unfold Obligations.HaltResult
  intro s
  have hexec : exec .halt s = .next (halt s) := rfl
  have htest : (!s.latch.ime && decide (pending s ≠ 0)) = true ↔
      s.latch.ime = false ∧ s.ieReg.setWidth 5 &&& s.ifReg ≠ 0 := by
    rw [Bool.and_eq_true, Bool.not_eq_true', decide_eq_true_iff]; rfl
  rw [hexec, halt]
  exact ⟨fun h => congrArg Host.Outcome.next (if_pos (htest.mpr h)),
    fun h => congrArg Host.Outcome.next (if_neg (mt htest.mp h))⟩

/-- Settles O25: each meaning is the stated update by definition. -/
theorem systemResults : Obligations.SystemResults := by
  unfold Obligations.SystemResults
  intro s
  refine ⟨rfl, rfl, rfl, rfl, ?_⟩
  simp only [List.forall_mem_cons]
  exact ⟨rfl, rfl, rfl, rfl, rfl, rfl, rfl, rfl, rfl, rfl, rfl, List.forall_mem_nil _⟩

end Sys2Proof.Machine
end

section
/-! PROOFS. The scheduler iteration (R280, R281, R285 to R303; O6, O8 to O14). Where a step reaches the boundary of an
awake CPU is said once; there it serves a line or runs the instruction the decoder makes of the bytes at PC. -/

namespace Sys2Proof.Machine

/-! ## Selection (R285) -/

theorem lowestLine_eq_none (p : BitVec 5) : lowestLine p = none ↔ p = 0 := by
  revert p; decide

/-- Settles O12: the tests run from bit 0 up, and each is reached where the bits below are clear. -/
theorem lowestLineSelected : Obligations.LowestLineSelected := by
  unfold Obligations.LowestLineSelected
  refine fun p => ⟨lowestLine_eq_none p, fun n => ?_⟩
  revert p
  cases n with
  | vblank => decide
  | stat => decide
  | timer => decide
  | serial => decide
  | joypad => decide

/-! ## The branches of a step (R292, R295) -/

section
variable {s : State}

theorem wake_of_awake (h : s.latch.halted = false) : wake s = s := by
  unfold wake; rw [← h]; rfl

theorem step_of_locked (h : s.latch.locked = true) : step s = .next (internal s) := if_pos h

theorem step_of_halted (hl : s.latch.locked = false) (hh : s.latch.halted = true) (hp : pending s = 0) :
    step s = .next (internal s) := by
  simp [step, schedulerStep, hl, hh, hp]

/-- A CPU that is awake, or woken by a pending interrupt, goes on at the boundary. -/
theorem step_of_awake (hl : s.latch.locked = false) (hh : s.latch.halted = true → pending s ≠ 0) :
    step s = runBoundary (wake s) := by
  cases h : s.latch.halted with
  | true =>
    unfold step schedulerStep
    rw [hl, if_neg Bool.false_ne_true, if_pos h, if_neg (hh h)]
  | false => rw [wake_of_awake h]; simp [step, schedulerStep, hl, h]

theorem runBoundary_of_stopped (h : s.latch.stopped = true) : runBoundary s = .next (internal s) := if_pos h

theorem runBoundary_of_service {n : IntLine} (hs : s.latch.stopped = false) (hn : serviceLine s = some n) :
    runBoundary s = .next (takeInterrupt n s) := by
  simp [runBoundary, hs, hn]

theorem runBoundary_of_execute (hs : s.latch.stopped = false) (hn : serviceLine s = none) :
    runBoundary s = executeInstruction s := by
  simp [runBoundary, hs, hn]

/-- A step with nothing to service executes an instruction. -/
theorem step_eq_execute (hl : s.latch.locked = false) (hs : s.latch.stopped = false)
    (hh : s.latch.halted = true → pending s ≠ 0) (hn : serviceLine s = none) :
    step s = executeInstruction (wake s) :=
  (step_of_awake hl hh).trans (runBoundary_of_execute (s := wake s) hs hn)

end

/-- Settles O9: the branches of the iteration, in the order of R292. -/
theorem idleSteps : Obligations.IdleSteps := by
  unfold Obligations.IdleSteps
  refine fun s => ⟨step_of_locked, step_of_halted, fun hl hh hp => ?woken, fun hl hh hs => ?stopped⟩
  case woken =>
    have hwoken : step (wake s) = runBoundary (wake (wake s)) := step_of_awake (s := wake s) hl (nomatch ·)
    rw [hwoken, wake_of_awake (s := wake s) rfl]
    exact step_of_awake hl fun _ => hp
  case stopped =>
    rw [step_of_awake hl fun h => absurd (hh.symm.trans h) Bool.false_ne_true, wake_of_awake hh]
    exact runBoundary_of_stopped hs

/-! ## Nothing stops (R280) -/

/-- A well-formed instruction is one the decoder gives, of which the tables say what it does. -/
theorem hasEffect_of_wellFormed {i : Instr} (h : i.wellFormed = true) : HasEffect i := by
  obtain ⟨op, b1, b2, -, rfl⟩ := decode_eq_ok (decodeOfEncode i [] h)
  exact decodeOp_effect op b1 b2

theorem exec_continues (i : Instr) (s : State) : Continues (exec i s) := by
  by_cases hwf : i.wellFormed = true
  · obtain ⟨t, ht, -⟩ := hasEffect_of_wellFormed hwf s
    exact ⟨t, ht⟩
  · cases i with
    | prefixCb c => exact ⟨cbMeaning c s, rfl⟩
    | _ => exact absurd rfl hwf

/-- An executed instruction is what `exec` answers, and then the end of the EI delay (R294). -/
theorem executeInstruction_eq {s t : State} (h : exec (fetchedInstr s) (afterFetch s) = .next t) :
    executeInstruction s = .next (afterInstruction s.latch.imePending t) := by
  unfold executeInstruction; rw [h]

theorem executeInstruction_continues (s : State) : Continues (executeInstruction s) := by
  obtain ⟨t, ht⟩ := exec_continues (fetchedInstr s) (afterFetch s)
  exact ⟨_, executeInstruction_eq ht⟩

theorem runBoundary_continues (s : State) : Continues (runBoundary s) := by
  unfold runBoundary
  split
  · exact ⟨_, rfl⟩
  · split
    · exact ⟨_, rfl⟩
    · exact executeInstruction_continues s

theorem step_continues (s : State) : Continues (step s) := by
  unfold step schedulerStep
  split
  · exact ⟨_, rfl⟩
  · split
    · split
      · exact ⟨_, rfl⟩
      · exact runBoundary_continues _
    · exact runBoundary_continues s

/-- Settles O8: the instructions by the decoder's tables, the iteration by its branches. -/
theorem nothingStops : Obligations.NothingStops := ⟨exec_continues, step_continues⟩

/-! ## The locked state (R281) -/

theorem run_succ_of_step {M : Host.Core} {n : Nat} {s t : M.State} (h : M.step s = .next t) :
    M.run (n + 1) s = M.run n t := by
  rw [Host.Core.run, h]

/-- Settles O10: an internal M-cycle leaves the lock and the registers alone. -/
theorem lockedForever : Obligations.LockedForever := by
  unfold Obligations.LockedForever
  intro n
  induction n with
  | zero => exact fun s hl => ⟨s, rfl, hl, rfl, by simp⟩
  | succ n ih =>
    intro s hl
    obtain ⟨hlatch, -⟩ := internal_latch s
    obtain ⟨t, hrun, htl, htr, htc⟩ := ih (internal s) (by rw [hlatch]; exact hl)
    refine ⟨t, ?_, htl, by rw [htr, internal_regs], ?_⟩
    · exact (run_succ_of_step (M := Sys2Proof.core) (step_of_locked hl)).trans hrun
    · rw [htc, internal_cycles, BitVec.add_assoc, Nat.mul_succ, Nat.add_comm, BitVec.ofNat_add]; rfl

/-! ## Interrupt service (R287 to R290, R303) -/

theorem pending_ne_zero {s : State} {n : IntLine} (h : lowestLine (pending s) = some n) : pending s ≠ 0 := by
  intro hp
  rw [(lowestLine_eq_none _).mpr hp] at h
  cases h

theorem IntLine.vector_eq (n : IntLine) : n.vector = 0x0040 + BitVec.ofNat 16 (8 * n.bit) :=
  BitVec.ofNat_add 0x40 (8 * n.bit)

/-- Settles O13: a selected line wakes the CPU, and its service starts in the state that acknowledges it. -/
theorem interruptService : Obligations.InterruptService := by
  unfold Obligations.InterruptService
  intro s n hl hs hime hn
  have hstep : step s = .next (takeInterrupt n (wake s)) := by
    have hline : serviceLine (wake s) = some n := (if_pos hime).trans hn
    exact (step_of_awake hl fun _ => pending_ne_zero hn).trans (runBoundary_of_service (s := wake s) hs hline)
  have hdoes := takeInterrupt_does n (wake s)
  refine ⟨acknowledge n (wake s), takeInterrupt n (wake s), rfl, ?_, hstep, ?_, hdoes.cycles, hdoes.latch,
    hdoes.memory⟩
  · rw [← n.vector_eq]; rfl
  · rw [← n.vector_eq]; exact hdoes.regs

/-! ## A joypad edge (R296, R302) -/

/-- No agent before the collaborators touches their schedule. -/
theorem ppuT_inputs (s : State) : (ppuT (dmaT (timerT s))).env.inputs = s.env.inputs := by
  rw [(ppuT_only _).env, (dmaT_only _).env, timerT_env]

/-- A request made before the collaborators' other requests is not lost by them. -/
theorem CollabOnly.keeps_request {s t : State} (h : CollabOnly s t) {k : Nat} (hk : s.ifReg.getLsbD k = true) :
    t.ifReg.getLsbD k = true := by
  have hbit := congrArg (BitVec.getLsbD · k) h.requests
  simpa [hk] using hbit

theorem tickT_of_due {s : State} {e : ExtEvent} {rest : List (Nat × ExtEvent)} (h : s.env.inputs = (0, e) :: rest) :
    tickT s = deliverDue rest (deliver e (ppuT (dmaT (timerT s)))) := by
  unfold tickT collaboratorsT
  rw [ppuT_inputs, h]; rfl

theorem deliver_joypadEdge (s : State) :
    (deliver .joypadEdge s).latch.stopped = false ∧ (deliver .joypadEdge s).ifReg.getLsbD 4 = true := by
  simp [deliver, IntLine.mask, IntLine.bit]

/-- Settles O11: the edge is delivered first, and the requests after it neither stop the CPU nor lose it. -/
theorem joypadEdge : Obligations.JoypadEdge := by
  unfold Obligations.JoypadEdge
  intro s rest hin
  obtain ⟨hawake, hrequest⟩ := deliver_joypadEdge (ppuT (dmaT (timerT s)))
  have hafter := deliverDue_only rest (deliver .joypadEdge (ppuT (dmaT (timerT s))))
  rw [tickT_of_due hin]
  exact ⟨hafter.latch.not_stopped hawake, hafter.keeps_request hrequest⟩

/-! ## The instruction a step runs (R292, R293) -/

/-- The decoder looks at no byte past the instruction's own. -/
theorem decodeOp_congr {op b1 b2 c1 c2 : Byte} (h : instrBytes op b1 b2 = instrBytes op c1 c2) :
    decodeOp op b1 b2 = decodeOp op c1 c2 := by
  by_cases hstop : op = 0x10
  · subst hstop; rfl
  · have hb := decodeOp_isRow hstop b1 b2
    have hc := decodeOp_isRow hstop c1 c2
    have hdb := decodeOfEncode _ [] hb.wellFormed
    have hdc := decodeOfEncode _ [] hc.wellFormed
    rw [hb.bytes, h, ← hc.bytes, hdc] at hdb
    exact (congrArg Prod.fst (Except.ok.inj hdb)).symm

/-- The operand bytes the CPU does not read do not matter. -/
theorem fetchedInstr_eq (s : State) :
    fetchedInstr s = decodeOp (pcByte s) (pcByte (fetch s)) (pcByte (imm8 (fetch s))) := by
  unfold fetchedInstr; dsimp only
  by_cases hstop : pcByte s = 0x10
  · rw [hstop]; rfl
  · have hreads : operandReads (pcByte s) = lengthOf (pcByte s) - 1 := if_neg hstop
    rcases lengthOf_cases (pcByte s) with hl | hl | hl <;> rw [hreads, hl]
    · exact decodeOp_congr (by simp [instrBytes, hl])
    · exact decodeOp_congr (by simp [instrBytes, hl])
    · rfl

/-- Three bytes are enough for any opcode. -/
theorem decode_three (op b1 b2 : Byte) : ∃ tail, decode [op, b1, b2] = .ok (decodeOp op b1 b2, tail) := by
  rcases lengthOf_cases op with hl | hl | hl
  · exact ⟨[b1, b2], by simp [decode, hl, decodeOp_congr (b1 := b1) (b2 := b2) (c1 := 0) (c2 := 0), instrBytes]⟩
  · exact ⟨[b2], by simp [decode, hl, decodeOp_congr (b1 := b1) (b2 := b2) (c1 := b1) (c2 := 0), instrBytes]⟩
  · exact ⟨[], by simp [decode, hl]⟩

/-- Settles O6: the instruction that is fetched is the one the bytes at PC decode to. -/
theorem stepRunsDecoded : Obligations.StepRunsDecoded := by
  unfold Obligations.StepRunsDecoded
  intro s i rest hl hs hh hn hdecode
  obtain ⟨tail, hthree⟩ := decode_three (pcByte (wake s)) (pcByte (fetch (wake s))) (pcByte (imm8 (fetch (wake s))))
  rw [hthree, ← fetchedInstr_eq] at hdecode
  cases hdecode
  rw [step_eq_execute hl hs hh hn]
  rfl

/-! ## The EI delay (R294, R263, R264) -/

theorem afterFetch_ime (s : State) :
    (afterFetch s).latch.ime = s.latch.ime ∧ (afterFetch s).latch.imePending = s.latch.imePending := by
  rw [(afterFetch_does s).latch.1]
  exact ⟨rfl, rfl⟩

/-- Only DI ends a delay before it is over. -/
theorem Effect.keeps_imePending {i : Instr} {s t : State} (h : Effect i s t) (hi : i ≠ .di)
    (hs : s.latch.imePending = true) : t.latch.imePending = true := by
  cases h with
  | framed h => rw [h.latch.1]; exact hs
  | halt => unfold Machine.halt; split <;> exact hs
  | stop => exact hs
  | di h => exact absurd h hi
  | ei => rfl
  | reti =>
    rw [reti_eq, State.setLatch_latch, (ret_does s).latch.1]
    exact hs
  | lockUp => exact hs

theorem afterInstruction_ends {t : State} (h : t.latch.imePending = true) :
    (afterInstruction true t).latch.ime = true ∧ (afterInstruction true t).latch.imePending = false := by
  simp [afterInstruction, h]

/-- Settles O14: the delay ends after every instruction but DI, which ends it before, and EI starts it. -/
theorem eiDelay : Obligations.EiDelay := by
  unfold Obligations.EiDelay
  intro s t hl hs hh hn hstep
  rw [step_eq_execute hl hs hh hn] at hstep
  obtain ⟨hime, hpending⟩ := afterFetch_ime (wake s)
  refine ⟨fun hp hi => ?ended, fun hi => ?di, fun hp hi => ?ei⟩
  case ended =>
    obtain ⟨u, heffect, rfl⟩ := executeInstruction_cases hstep
    have hu : u.latch.imePending = true := heffect.keeps_imePending hi (hpending.trans hp)
    have hwas : (wake s).latch.imePending = true := hp
    rw [hwas]
    exact afterInstruction_ends hu
  case di =>
    have hexec : exec (fetchedInstr (wake s)) (afterFetch (wake s)) = .next (di (afterFetch (wake s))) := by
      rw [hi]; rfl
    rw [executeInstruction_eq hexec] at hstep
    cases hstep
    simp [afterInstruction, di]
  case ei =>
    have hexec : exec (fetchedInstr (wake s)) (afterFetch (wake s)) = .next (ei (afterFetch (wake s))) := by
      rw [hi]; rfl
    have hwas : (wake s).latch.imePending = false := hp
    rw [executeInstruction_eq hexec, hwas] at hstep
    cases hstep
    exact ⟨hime, rfl⟩

end Sys2Proof.Machine
end

section
/-! PROOFS. The timer (R322 to R329, R435; O45 to O47). One T-cycle is the window's part and then the counter's; in the
overflow window no falling edge can come, since the bit that fell stays clear for at least eight T-cycles. -/

namespace Sys2Proof.Machine

/-! ## One T-cycle (R324 to R326) -/

theorem Timer.window_eq (t : Timer) : t.window = { t with
    reloadCountdown := t.reloadCountdown - 1
    tima := if t.reloadCountdown = 1 then t.tma else t.tima } := by
  unfold Timer.window
  split
  · next h => rw [h]; exact congrArg (fun n => { t with reloadCountdown := n }) h
  · next h => rw [h]; rfl
  · next k h => rw [h]; simp

/-- The timer with its edge detector in step with the detector's input (R324). -/
def Timer.detected (t : Timer) : Timer := { t with signalPrev := t.signal }

/-- The edge detector takes over its input, and a falling edge clocks TIMA (R324). -/
theorem Timer.edgeCheck_eq (t : Timer) : t.edgeCheck =
    if t.signalPrev = true ∧ t.signal = false then t.detected.increment else t.detected := by
  unfold Timer.edgeCheck Timer.detected Timer.increment
  cases t.signalPrev <;> cases t.signal <;> simp
  split <;> rfl

/-- The timer in a T-cycle before TIMA is clocked: the window has counted down, and the detector sees the counter one
further (R326). -/
def Timer.ticked (t : Timer) : Timer := Timer.detected { t.window with sysCounter := t.sysCounter + 1 }

theorem Timer.window_count (t : Timer) : t.window.count =
    if t.signalPrev = true ∧ t.ticked.signalPrev = false then t.ticked.increment else t.ticked := by
  unfold Timer.count Timer.ticked
  rw [Timer.edgeCheck_eq, Timer.window_eq]
  rfl

theorem timerT_eq (s : State) : timerT s = { s with
    ifReg := if s.timer.reloadCountdown = 1 then s.ifReg ||| 4 else s.ifReg
    timer := s.timer.window.count } := by
  unfold timerT
  dsimp only
  split <;> rfl

/-- Settles O45: the window's part and then the counter's, each written out. -/
theorem timerCycle : Obligations.TimerCycle := by
  unfold Obligations.TimerCycle
  intro s
  refine ⟨s.timer.ticked, ?_, ?_⟩
  · unfold Timer.ticked
    rw [Timer.window_eq]
    rfl
  · rw [timerT_eq, Timer.window_count]
    rfl

/-! ## The overflow window (R326, R435) -/

theorem timerSelect_cases (tac : BitVec 3) :
    timerSelect tac = 3 ∨ timerSelect tac = 5 ∨ timerSelect tac = 7 ∨ timerSelect tac = 9 := by
  revert tac; decide

/-- A selected bit that falls stays clear for the next four counts: the bits below it are clear too. -/
theorem getLsbD_add_of_fallen {c : Word} {k n : Nat} (hk : k = 3 ∨ k = 5 ∨ k = 7 ∨ k = 9)
    (h1 : c.getLsbD k = true) (h0 : (c + 1).getLsbD k = false) (hn : n ≤ 4) :
    (c + 1 + BitVec.ofNat 16 n).getLsbD k = false := by
  simp only [BitVec.getLsbD, Nat.testBit_eq_decide_div_mod_eq, decide_eq_true_eq, decide_eq_false_iff_not] at h1 h0 ⊢
  have hc := c.isLt
  have hsucc : (c + 1).toNat = (c.toNat + 1) % 65536 := BitVec.toNat_add ..
  have hadd : (c + 1 + BitVec.ofNat 16 n).toNat = ((c.toNat + 1) % 65536 + n % 65536) % 65536 := by
    rw [BitVec.toNat_add, BitVec.toNat_ofNat, hsucc]
  rw [hsucc] at h0
  rw [hadd]
  obtain rfl | rfl | rfl | rfl := hk <;> norm_num at h1 h0 ⊢ <;> omega

theorem Timer.ticked_eq (t : Timer) : t.ticked = { t with
    reloadCountdown := t.reloadCountdown - 1
    tima := if t.reloadCountdown = 1 then t.tma else t.tima
    sysCounter := t.sysCounter + 1
    signalPrev := t.tac.getLsbD 2 && (t.sysCounter + 1).getLsbD (timerSelect t.tac) } := by
  unfold Timer.ticked
  rw [Timer.window_eq]
  rfl

/-- In the next T-cycle and the four after it the detector's input is low. -/
def Timer.Low (t : Timer) : Prop := ∀ n ≤ 4,
  (t.tac.getLsbD 2 && (t.sysCounter + 1 + BitVec.ofNat 16 n).getLsbD (timerSelect t.tac)) = false

theorem Timer.low_of_edge {t : Timer} (h : t.Inv) (hprev : t.signalPrev = true) (hfall : t.ticked.signalPrev = false) :
    t.Low := by
  rw [h.signal, Timer.signal, Bool.and_eq_true] at hprev
  obtain ⟨hon, hbit⟩ := hprev
  rw [Timer.ticked_eq, hon, Bool.true_and] at hfall
  intro n hn
  rw [hon, Bool.true_and]
  exact getLsbD_add_of_fallen (timerSelect_cases t.tac) hbit hfall hn

/-- `n` T-cycles after the one of the overflow: TIMA is 00, the window has counted down, nothing was requested. -/
structure InWindow (s : State) (n : Nat) (t : State) : Prop where
  timer : t.timer = { s.timer with
    sysCounter := s.timer.sysCounter + 1 + BitVec.ofNat 16 n
    tima := 0, signalPrev := false, reloadCountdown := 4 - n }
  ifReg : t.ifReg = s.ifReg

section
variable {s t : State}

/-- Only a falling edge takes TIMA from FF, and then the window opens. -/
theorem inWindow_of_overflow (h : s.timer.Inv) (hcount : s.timer.reloadCountdown = 0) (hff : s.timer.tima = 0xFF)
    (hover : (timerT s).timer.tima ≠ 0xFF) : s.timer.Low ∧ InWindow s 0 (timerT s) := by
  have htima : s.timer.ticked.tima = 0xFF := by rw [Timer.ticked_eq]; simp [hcount, hff]
  rw [timerT_timer, Timer.window_count] at hover
  split at hover
  · next hedge =>
    refine ⟨Timer.low_of_edge h hedge.1 hedge.2, ?_, ?_⟩
    · rw [timerT_timer, Timer.window_count, if_pos hedge, Timer.increment, if_pos htima, hedge.2.symm, Timer.ticked_eq]
      simp
    · simp [timerT_eq, hcount]
  · exact absurd htima hover

/-- Within the window no T-cycle clocks TIMA. -/
theorem InWindow.ticks {n : Nat} (h : InWindow s n t) (hlow : s.timer.Low) (hn : n < 4) :
    (timerT t).timer = { s.timer with
      sysCounter := s.timer.sysCounter + 1 + BitVec.ofNat 16 (n + 1)
      tima := if 4 - n = 1 then s.timer.tma else 0, signalPrev := false, reloadCountdown := 4 - (n + 1) } := by
  have hprev : t.timer.signalPrev = false := by rw [h.timer]
  have hcounter : s.timer.sysCounter + 1 + BitVec.ofNat 16 n + 1 = s.timer.sysCounter + 1 + BitVec.ofNat 16 (n + 1) := by
    rw [BitVec.ofNat_add, ← BitVec.add_assoc]; rfl
  rw [timerT_timer, Timer.window_count, if_neg (fun hedge => Bool.false_ne_true (hprev.symm.trans hedge.1)),
    Timer.ticked_eq, h.timer]
  dsimp only
  rw [hcounter, hlow (n + 1) hn, Nat.sub_sub]

theorem InWindow.next {n : Nat} (h : InWindow s n t) (hlow : s.timer.Low) (hn : n < 3) :
    InWindow s (n + 1) (timerT t) where
  timer := by rw [h.ticks hlow (by omega), if_neg (by omega)]
  ifReg := by
    have hcount : t.timer.reloadCountdown = 4 - n := by rw [h.timer]
    rw [timerT_eq, hcount, if_neg (by omega)]
    exact h.ifReg

theorem inWindow_iterate (hlow : s.timer.Low) (hstart : InWindow s 0 (timerT s)) {n : Nat} (hn : n ≤ 3) :
    InWindow s n (timerT^[n + 1] s) := by
  induction n with
  | zero => exact hstart
  | succ n ih =>
    rw [Function.iterate_succ_apply']
    exact (ih (by omega)).next hlow (by omega)

end

/-- Settles O46: the four T-cycles from the overflow on are in the window, and the fifth ends it. -/
theorem overflowWindow : Obligations.OverflowWindow := by
  unfold Obligations.OverflowWindow
  intro s hinv hcount hff hover
  obtain ⟨hlow, hstart⟩ := inWindow_of_overflow hinv hcount hff hover
  have hlast : InWindow s 3 (timerT^[4] s) := inWindow_iterate hlow hstart (Nat.le_refl 3)
  have hone : (timerT^[4] s).timer.reloadCountdown = 1 := by rw [hlast.timer]
  refine ⟨fun n h1 h4 => ?_, ?_, ?_⟩
  · obtain ⟨k, rfl⟩ := Nat.exists_eq_add_of_le' h1
    have hwindow : InWindow s k (timerT^[k + 1] s) := inWindow_iterate hlow hstart (by omega)
    exact ⟨by rw [hwindow.timer], hwindow.ifReg⟩
  · rw [Function.iterate_succ_apply', hlast.ticks hlow (by omega)]
    rfl
  · rw [Function.iterate_succ_apply', timerT_eq, hone, if_pos rfl, hlast.ifReg]

/-! ## Writes (R322, R327 to R329) -/

/-- TIMA goes from FF to 00, as any other value goes up by one. -/
theorem Timer.increment_tima (t : Timer) : t.increment.tima = t.tima + 1 := by
  unfold Timer.increment
  split
  · next h => rw [h]; rfl
  · rfl

theorem Timer.edgeCheck_tima (t : Timer) :
    t.edgeCheck.tima = if t.signalPrev && !t.signal then t.tima + 1 else t.tima := by
  unfold Timer.edgeCheck
  split
  · exact t.increment_tima
  · rfl

/-- Settles O47: DIV and TAC change the detector's input, which by the invariant it was in step with. -/
theorem timerWrites : Obligations.TimerWrites := by
  unfold Obligations.TimerWrites
  intro s v hinv
  have hsignal : s.timer.signalPrev = (s.timer.tac.getLsbD 2 && s.timer.sysCounter.getLsbD (timerSelect s.timer.tac)) :=
    hinv.signal
  refine ⟨?divCounter, ?div, rfl, rfl, s.timer.writeTac_tac v, ?tac⟩
  case divCounter => exact (Timer.edgeCheck_keeps { s.timer with sysCounter := 0 }).2.2
  case div =>
    refine (Timer.edgeCheck_tima { s.timer with sysCounter := 0 }).trans ?_
    simp [Timer.signal, hsignal]
  case tac =>
    refine (Timer.edgeCheck_tima { s.timer with tac := v.setWidth 3 }).trans ?_
    simp [Timer.signal, hsignal]

end Sys2Proof.Machine
end

section
/-! PROOFS. OAM DMA (R340 to R347; O48, O49). The engine's own counters move by a function of themselves; a copy is
followed T-cycle by T-cycle, with what it has stored so far and the storage outside OAM as it was. -/

namespace Sys2Proof.Machine

/-! ## The engine's counters (R341) -/

/-- One T-cycle of the engine's counters. -/
def Dma.tick (d : Dma) : Dma :=
  if d.active then
    if d.sub + 1 = 4 then { d with sub := 0, index := d.index + 1, active := decide (d.index + 1 ≠ 160) }
    else { d with sub := d.sub + 1 }
  else d

theorem dmaT_dma (s : State) : (dmaT s).dma = s.dma.tick := by
  unfold dmaT Dma.tick
  split
  · split <;> rfl
  · rfl

theorem tickT_dma (s : State) : (tickT s).dma = s.dma.tick := by
  unfold tickT
  rw [(collaboratorsT_only _).dma, (ppuT_only _).dma, dmaT_dma, timerT_dma]

/-! ## The storage in a T-cycle -/

/-- Of the agents only the engine touches the storage (R330, R388, R302). -/
theorem tickT_ramRead (s : State) (x : Nat) : ramRead (tickT s) x = ramRead (dmaT (timerT s)) x := by
  have hp := ppuT_only (dmaT (timerT s))
  have hc := collaboratorsT_only (ppuT (dmaT (timerT s)))
  exact ramRead_congr (t := tickT s) (hc.mem.trans hp.mem) (by unfold tickT; rw [hc.env, hp.env]) x

theorem timerT_ramRead (s : State) (x : Nat) : ramRead (timerT s) x = ramRead s x :=
  ramRead_congr (timerT_mem s) (by rw [timerT_env]) x

section
variable {s : State}

theorem dmaT_ramRead_waiting (h : s.dma.sub + 1 ≠ 4) (x : Nat) : ramRead (dmaT s) x = ramRead s x := by
  unfold dmaT
  rw [if_neg h]
  split <;> rfl

theorem dmaT_ramRead_copying (ha : s.dma.active = true) (h : s.dma.sub + 1 = 4) (x : Nat) :
    ramRead (dmaT s) x = if x = 0xFE00 + s.dma.index then dmaRead s s.dma.source else ramRead s x := by
  have hread : ramRead (afterDmaRead s.dma.source s) x = ramRead s x := by
    rcases afterDmaRead_keeps s.dma.source s with e | e
    · rw [e]
    · rw [e]; rfl
  have hcopy : ramRead (dmaT s) x =
      ramRead (ramWrite (0xFE00 + s.dma.index) (dmaRead s s.dma.source) (afterDmaRead s.dma.source s)) x := by
    unfold dmaT
    rw [if_pos ha, if_pos h, dmaCopy_eq]; rfl
  rw [hcopy]
  split
  · next hx => rw [hx, ramRead_ramWrite_same]
  · next hx => rw [ramRead_ramWrite_other hx, hread]

end

/-! ## The source (R342, R343) -/

/-- What the bus reads where it reaches the block's storage. -/
theorem busRead_of_storageOf {a : Word} {x : Nat} (h : storageOf a = some x) (s : State) : busRead s a = ramRead s x := by
  unfold storageOf at h
  unfold busRead
  cases e : regionOf a <;> simp only [e, Option.some.injEq, reduceCtorEq] at h <;> rw [h]

theorem storageOf_le {a : Word} {x : Nat} (h : storageOf a = some x) : x ≤ a.toNat := by
  unfold storageOf at h
  cases e : regionOf a <;> simp only [e, Option.some.injEq, reduceCtorEq] at h <;> omega

theorem dmaHigh_of_lt {a : Word} (h : a.toNat < 0xFE00) : dmaHigh a = false := by
  have hhi : (hiByte a).toNat = a.toNat / 256 := by
    have := a.isLt
    simp [hiByte, BitVec.extractLsb'_toNat, Nat.shiftRight_eq_div_pow]
    omega
  have hne (w : Byte) (hw : 0xFE ≤ w.toNat) : hiByte a ≠ w := fun e => by
    rw [e] at hhi; omega
  rw [dmaHigh, decide_eq_false (hne 0xFE (by decide)), decide_eq_false (hne 0xFF (by decide)), Bool.or_false]

theorem pageByte_toNat (v : Byte) {k : Nat} (hk : k < 160) :
    ((v ++ 0#8) + BitVec.ofNat 16 k).toNat = 256 * v.toNat + k := by
  have hpage : (v ++ 0#8).toNat = 256 * v.toNat := by
    rw [BitVec.toNat_append]; simp [Nat.shiftLeft_eq, Nat.mul_comm]
  have hv := v.isLt
  rw [BitVec.toNat_add, hpage, BitVec.toNat_ofNat]
  omega

/-- A byte of a source page in storage, as the engine reads it: never a byte of OAM. -/
theorem dmaRead_page {v : Byte} {k x : Nat} (hv : v.toNat < 0xFE) (hk : k < 160)
    (hx : storageOf ((v ++ 0#8) + BitVec.ofNat 16 k) = some x) (s : State) :
    x < 0xFE00 ∧ dmaRead s ((v ++ 0#8) + BitVec.ofNat 16 k) = ramRead s x := by
  have haddr := pageByte_toNat v hk
  have hlt : ((v ++ 0#8) + BitVec.ofNat 16 k).toNat < 0xFE00 := by omega
  refine ⟨Nat.lt_of_le_of_lt (storageOf_le hx) hlt, ?_⟩
  rw [dmaRead, dmaHigh_of_lt hlt]
  exact busRead_of_storageOf hx s

/-! ## A copy in progress (R341) -/

/-- A copy of page `v` begun in `s` has reached `t`: `n` bytes are copied, `j` T-cycles of the next one have passed, and
the storage outside OAM is as it was in `s`. -/
structure Copying (s : State) (v : Byte) (n j : Nat) (t : State) : Prop where
  dma : t.dma = { Dma.start v with index := n, sub := j, active := decide (n ≠ 160) }
  copied : ∀ k x, k < n → v.toNat < 0xFE → storageOf ((v ++ 0#8) + BitVec.ofNat 16 k) = some x →
    ramRead t (0xFE00 + k) = ramRead s x
  rest : ∀ x, ¬ (0xFE00 ≤ x ∧ x ≤ 0xFE9F) → ramRead t x = ramRead s x

section
variable {s t : State} {v : Byte} {n j : Nat}

theorem Copying.tick_wait (h : Copying s v n j t) (hn : n < 160) (hj : j < 3) : Copying s v n (j + 1) (tickT t) := by
  have hsub : t.dma.sub + 1 ≠ 4 := by rw [h.dma]; show j + 1 ≠ 4; omega
  have hkeep (x : Nat) : ramRead (tickT t) x = ramRead t x := by
    rw [tickT_ramRead, dmaT_ramRead_waiting (by rwa [timerT_dma]), timerT_ramRead]
  refine ⟨?_, fun k x hk hv hx => (hkeep _).trans (h.copied k x hk hv hx), fun x hx => (hkeep x).trans (h.rest x hx)⟩
  have hne : n ≠ 160 := by omega
  have hj4 : j + 1 ≠ 4 := by omega
  rw [tickT_dma, h.dma]
  simp [Dma.tick, hne, hj4]

theorem Copying.tick_copy (h : Copying s v n 3 t) (hn : n < 160) : Copying s v (n + 1) 0 (tickT t) := by
  have hne : n ≠ 160 := by omega
  have hactive : t.dma.active = true := by rw [h.dma]; exact decide_eq_true hne
  have hindex : t.dma.index = n := by rw [h.dma]
  have hsource : t.dma.source = (v ++ 0#8) + BitVec.ofNat 16 n := by rw [h.dma]; rfl
  have hstore (x : Nat) : ramRead (tickT t) x =
      if x = 0xFE00 + n then dmaRead (timerT t) ((v ++ 0#8) + BitVec.ofNat 16 n) else ramRead t x := by
    rw [tickT_ramRead, dmaT_ramRead_copying (by rwa [timerT_dma]) (by rw [timerT_dma, h.dma]), timerT_dma, hindex,
      hsource, timerT_ramRead]
  refine ⟨?_, fun k x hk hv hx => ?_, fun x hx => ?_⟩
  · rw [tickT_dma, h.dma]
    simp [Dma.tick, hne]
  · rw [hstore]
    split
    · next hkn =>
      obtain rfl : k = n := by omega
      obtain ⟨hlt, hread⟩ := dmaRead_page hv hn hx (timerT t)
      rw [hread, timerT_ramRead]
      exact h.rest x (by omega)
    · next hkn => exact h.copied k x (by omega) hv hx
  · rw [hstore, if_neg (by omega)]
    exact h.rest x hx

/-- One byte per M-cycle. -/
theorem Copying.mcycle (h : Copying s v n 0 t) (hn : n < 160) : Copying s v (n + 1) 0 (mcycle t) := by
  have h4 := (((h.tick_wait hn (by omega)).tick_wait hn (by omega)).tick_wait hn (by omega)).tick_copy hn
  exact ⟨h4.dma, h4.copied, h4.rest⟩

end

/-! ## The start and the whole copy (R340, R347) -/

/-- With no copy running the CPU reaches FF46. -/
theorem cpuWrite_dma {s : State} (hd : s.dma.active = false) (v : Byte) :
    cpuWrite 0xFF46 v s = s.setDma (Dma.start v) := by
  have hopen : cpuBlocked s 0xFF46 = false := by rw [cpuBlocked, hd]; rfl
  rw [cpuWrite, hopen]; rfl

/-- The M-cycle of the FF46 write copies byte 0, and each M-cycle after it one more. -/
theorem copying_iterate {s : State} (hd : s.dma.active = false) (v : Byte) {n : Nat} (hn : n < 160) :
    Copying s v (n + 1) 0 (internal^[n] (memWrite 0xFF46 v s)) := by
  induction n with
  | zero =>
    have hstart : Copying s v 0 0 (cpuWrite 0xFF46 v s) := by
      rw [cpuWrite_dma hd]
      exact ⟨rfl, fun k x hk => absurd hk (Nat.not_lt_zero k), fun _ _ => rfl⟩
    exact hstart.mcycle hn
  | succ n ih =>
    rw [Function.iterate_succ_apply']
    exact (ih (by omega)).mcycle hn

/-- Settles O48: the write's own access sets the engine, and the M-cycle's four T-cycles copy byte 0. -/
theorem dmaStart : Obligations.DmaStart := by
  unfold Obligations.DmaStart
  intro s v hd
  have hfirst := copying_iterate hd v (n := 0) (by decide)
  refine ⟨cpuWrite_dma hd v, ?_, ?_⟩
  · exact congrArg Dma.index hfirst.dma
  · exact congrArg Dma.active hfirst.dma

/-- Settles O49: the copy followed to its 159th and to its last byte. -/
theorem dmaCopiesPage : Obligations.DmaCopiesPage := by
  unfold Obligations.DmaCopiesPage
  intro s v hd
  have hrunning := copying_iterate hd v (n := 158) (by decide)
  have hdone := copying_iterate hd v (n := 159) (by decide)
  exact ⟨congrArg Dma.active hrunning.dma, congrArg Dma.active hdone.dma, hdone.copied⟩

end Sys2Proof.Machine
end

section
/-! PROOFS. The PPU's registers and addresses (R365, R370, R371, R380, R381, R385, R386, R389; O52, O54 to O56). -/

namespace Sys2Proof.Machine

/-! ## The LY compare (R365) -/

/-- Settles O52: the request is made in one case, and the flag is stored in both. -/
theorem lyCompare : Obligations.LyCompare := by
  unfold Obligations.LyCompare
  intro s
  have htest : (decide (s.ppu.ly = s.ppu.lyc.toNat) && !s.ppu.lycEqual && s.ppu.statSel.getLsbD 3) = true ↔
      s.ppu.ly = s.ppu.lyc.toNat ∧ s.ppu.lycEqual = false ∧ s.ppu.statSel.getLsbD 3 = true := by
    rw [Bool.and_eq_true, Bool.and_eq_true, decide_eq_true_iff, Bool.not_eq_true', and_assoc]
  unfold lycUpdate; dsimp only
  by_cases h : s.ppu.ly = s.ppu.lyc.toNat ∧ s.ppu.lycEqual = false ∧ s.ppu.statSel.getLsbD 3 = true
  · rw [if_pos (htest.mpr h), if_pos h]; rfl
  · rw [if_neg (mt htest.mp h), if_neg h]; rfl

/-! ## The fetcher's addresses (R370, R371) -/

section
variable (p : Ppu)

theorem mapBase_cases (bit : Bool) : mapBase bit = 0x9800 ∨ mapBase bit = 0x9C00 := by
  cases bit
  · exact .inl rfl
  · exact .inr rfl

/-- A tile map has 32 rows of 32 tiles. -/
theorem Ppu.mapAddr_range : 0x9800 ≤ p.mapAddr ∧ p.mapAddr ≤ 0x9FFF := by
  have hline := p.windowLine.isLt
  have htile := p.fetchTileX.isLt
  unfold Ppu.mapAddr
  split
  · rcases mapBase_cases (p.lcdc.getLsbD 6) with h | h <;> omega
  · rcases mapBase_cases (p.lcdc.getLsbD 3) with h | h <;> omega

theorem Ppu.tileRow_lt : p.tileRow < 8 := by
  unfold Ppu.tileRow
  split <;> exact Nat.mod_lt _ (by decide)

theorem Ppu.tileAddr_unsigned (h : p.lcdc.getLsbD 4 = true) (id : Byte) :
    p.tileAddr id = 0x8000 + 16 * id.toNat + 2 * p.tileRow := by
  rw [Ppu.tileAddr, if_pos h, Nat.mul_comm id.toNat]

/-- The tile number, from −128 to 127, counts from 0x9000, so the address does not go below 0x8800. -/
theorem Ppu.tileAddr_signed (h : p.lcdc.getLsbD 4 = false) (id : Byte) :
    (p.tileAddr id : Int) = 0x9000 + 16 * id.toInt + 2 * p.tileRow := by
  have hlo := BitVec.le_toInt id
  rw [Ppu.tileAddr, h, if_neg Bool.false_ne_true]
  push_cast
  omega

end

/-- Settles O54: the ranges follow from the formulas and the widths of their parts. -/
theorem fetcherAddresses : Obligations.FetcherAddresses := by
  unfold Obligations.FetcherAddresses
  intro p id
  have hrow := p.tileRow_lt
  refine ⟨p.mapAddr_range, fun h => if_pos h, fun h => if_neg (Bool.not_eq_true _ ▸ h), fun h => ?unsigned, fun h => ?signed, hrow⟩
  case unsigned =>
    have haddr := p.tileAddr_unsigned h id
    have hid := id.isLt
    exact ⟨by omega, by omega, haddr⟩
  case signed =>
    have haddr := p.tileAddr_signed h id
    have hlo := BitVec.le_toInt id
    have hhi := BitVec.toInt_lt (x := id)
    exact ⟨by omega, by omega, haddr⟩

/-! ## The pixel mix (R380, R381) -/

section
variable (p : Ppu) (b : Colour) {o : ObjPixel}

theorem Ppu.mix_none :
    p.mix b none = if p.lcdc.getLsbD 0 then p.bgp.extractLsb' (2 * b.toNat) 2 else 0 := by
  unfold Ppu.mix paletteShade
  cases p.lcdc.getLsbD 0 <;> rfl

/-- The sprite pixel against the background pixel behind it. -/
theorem Ppu.mix_some : p.mix b (some o) =
    if o.colour ≠ 0 ∧ (o.priority = false ∨ p.lcdc.getLsbD 0 = false ∨ b = 0) then
      paletteShade (if o.palette then p.obp1 else p.obp0) o.colour
    else p.mix b none := by
  unfold Ppu.mix
  cases p.lcdc.getLsbD 0 <;> simp

end

/-- Settles O55: the three cases of a sprite pixel are those of `Ppu.mix_some`. -/
theorem pixelMix : Obligations.PixelMix := by
  unfold Obligations.PixelMix
  intro p b
  refine ⟨p.mix_none b, fun o => ⟨fun h => ?_, fun h hfront => ?_, fun h hprio hon hb => ?_⟩⟩
  · rw [p.mix_some, if_neg fun hc => hc.1 h]
  · rw [p.mix_some, if_pos ⟨h, hfront⟩]; rfl
  · rw [p.mix_some, if_neg]
    rintro ⟨-, hc | hc | hc⟩
    · exact Bool.false_ne_true (hc.symm.trans hprio)
    · exact Bool.false_ne_true (hc.symm.trans hon)
    · exact hb hc

/-! ## The LCD switch (R385, R386, R389) -/

section
variable {s : State} {v : Byte}

theorem writeLcdc_off (hon : s.ppu.lcdc.getLsbD 7 = true) (hv : v.getLsbD 7 = false) :
    writeLcdc v s = present [] (s.setPpu (Ppu.turnOff { s.ppu with lcdc := v })) := by
  rw [writeLcdc, Ppu.lcdOn, hon, hv]; rfl

theorem writeLcdc_on (hoff : s.ppu.lcdc.getLsbD 7 = false) (hv : v.getLsbD 7 = true) :
    writeLcdc v s = s.setPpu (Ppu.turnOn { s.ppu with lcdc := v }) := by
  rw [writeLcdc, Ppu.lcdOn, hoff, hv]; rfl

theorem writeLcdc_same (h : s.ppu.lcdc.getLsbD 7 = v.getLsbD 7) :
    writeLcdc v s = s.setPpu { s.ppu with lcdc := v } := by
  rw [writeLcdc, Ppu.lcdOn, h]
  cases v.getLsbD 7 <;> rfl

/-- A PPU that is off does nothing (R385). -/
theorem ppuT_off (h : s.ppu.lcdOn = false) : ppuT s = s := by
  rw [ppuT, h]; rfl

end

/-- Settles O56: the write is one of three, by bit 7 before and after it. -/
theorem lcdSwitch : Obligations.LcdSwitch := by
  unfold Obligations.LcdSwitch
  intro s v
  have hbus : busWrite 0xFF40 v s = writeLcdc v s := rfl
  rw [hbus]
  refine ⟨by rw [(writeLcdc_keeps v s).1], writeLcdc_lcdc v s, fun hon hv => ?off, fun hoff hv => ?on, writeLcdc_same⟩
  case off =>
    rw [writeLcdc_off hon hv]
    exact ⟨rfl, rfl, rfl, rfl, rfl, rfl, fun _ => rfl, rfl, ppuT_off hv⟩
  case on => exact writeLcdc_on hoff hv

end Sys2Proof.Machine
end

section
/-! PROOFS. Lines and frames (R360 to R366, R384, R390; O50, O51, O53). The mode's work in a dot leaves the position
alone, so each dot moves it by one; the move into line 144 is the only one that requests line 0. -/

namespace Sys2Proof.Machine

/-! ## The position (R360, R361) -/

section
variable {s : State}

/-- The mode's work in a dot leaves the line and the dot alone. -/
structure Ppu.SamePlace (p q : Ppu) : Prop where
  ly : q.ly = p.ly
  dot : q.dot = p.dot

theorem modeDot_samePlace (h : s.ppu.Inv) : s.ppu.SamePlace (modeDot s).ppu := by
  unfold modeDot
  split
  · obtain ⟨wy, hscan, -⟩ := oamScanDot_ppu s
    rw [hscan]
    exact ⟨rfl, rfl⟩
  · next hm =>
    have ht := mode3Dot_transfer ⟨h.bounds, hm, (h.transfer hm).2, h.fetching hm⟩
    exact ⟨ht.ly, ht.dot⟩
  · exact ⟨rfl, rfl⟩
  · exact ⟨rfl, rfl⟩

/-- The first dot of the next line, before it is begun. -/
def State.nextLine (s : State) : State := s.setPpu { s.ppu with dot := 0, ly := s.ppu.ly + 1 }

theorem endLine_eq (s : State) : endLine s =
    if s.ppu.ly = 143 then startVblank s.nextLine
    else if s.ppu.ly = 153 then startFrame s.nextLine
    else if s.ppu.ly < 143 then startLine s.nextLine
    else s.nextLine := by
  simp only [endLine, State.nextLine, State.setPpu_ppu, Nat.reduceEqDiff, Nat.add_lt_iff_lt_sub_right, Nat.reduceSub]

/-- At dot 456 the next line starts, and after line 153 line 0. -/
theorem endLine_place (s : State) :
    (endLine s).ppu.ly = (if s.ppu.ly = 153 then 0 else s.ppu.ly + 1) ∧ (endLine s).ppu.dot = 0 := by
  rw [endLine_eq]
  split
  · rw [startVblank_ppu, if_neg (by omega)]; exact ⟨rfl, rfl⟩
  · split
    · rw [startFrame_ppu]; exact ⟨rfl, rfl⟩
    · split
      · rw [startLine_ppu]; exact ⟨rfl, rfl⟩
      · exact ⟨rfl, rfl⟩

/-- The next dot, before it is entered. -/
def State.nextDot (s : State) : State := s.setPpu { s.ppu with dot := s.ppu.dot + 1 }

/-- The next dot as the first of mode 3. -/
def State.startTransfer (s : State) : State :=
  (enterMode .pixelXfer s.nextDot).setPpu (Ppu.lineStart { s.nextDot.ppu with mode := .pixelXfer })

/-- Mode 3 starts after dot 79 of mode 2, a line ends after dot 455, and any other dot is followed by the next. -/
theorem advanceDot_eq (s : State) : advanceDot s =
    if s.ppu.mode = .oamScan ∧ s.ppu.dot = 79 then s.startTransfer
    else if s.ppu.dot = 455 then endLine s.nextDot
    else s.nextDot := by
  have hmove : ∀ u, (if s.nextDot.ppu.mode = .oamScan ∧ s.nextDot.ppu.dot = 80 then
        (enterMode .pixelXfer s.nextDot).setPpu (enterMode .pixelXfer s.nextDot).ppu.lineStart else s.nextDot) = u →
      advanceDot s = if u.ppu.dot = 456 then endLine u else u := by rintro u rfl; rfl
  by_cases hscan : s.ppu.mode = .oamScan ∧ s.ppu.dot = 79
  · have hdot : s.nextDot.ppu.dot = 80 := congrArg (· + 1) hscan.2
    have hinner : ¬ s.startTransfer.ppu.dot = 456 := by
      show ¬ s.nextDot.ppu.dot = 456
      omega
    rw [if_pos hscan, hmove _ (if_pos ⟨hscan.1, hdot⟩), enterMode_ppu]
    exact if_neg hinner
  · rw [if_neg hscan, hmove _ (if_neg fun hc => hscan ⟨hc.1, Nat.succ.inj hc.2⟩)]
    exact if_congr Nat.succ_inj rfl rfl

theorem advanceDot_place (s : State) :
    456 * (advanceDot s).ppu.ly + (advanceDot s).ppu.dot =
      if s.ppu.dot = 455 ∧ s.ppu.ly = 153 then 0 else 456 * s.ppu.ly + s.ppu.dot + 1 := by
  rw [advanceDot_eq]
  split
  · next hscan =>
    rw [if_neg (by omega)]
    rfl
  · split
    · next hlast =>
      obtain ⟨hly, hdot⟩ := endLine_place s.nextDot
      have hnext : s.nextDot.ppu.ly = s.ppu.ly := rfl
      rw [hly, hdot, hnext]
      split_ifs <;> omega
    · next hlast =>
      rw [if_neg fun hc => hlast hc.1]
      rfl

/-- A dot moves the position on by one, round the frame of 154 lines of 456 dots. -/
theorem ppuT_place (h : s.ppu.Inv) (hon : s.ppu.lcdOn = true) :
    456 * (ppuT s).ppu.ly + (ppuT s).ppu.dot = (456 * s.ppu.ly + s.ppu.dot + 1) % 70224 := by
  have hplace := modeDot_samePlace h
  have hadvance := advanceDot_place (modeDot s)
  have hly := h.ly
  have hdot := h.dot
  rw [ppuT, if_pos hon, lycUpdate_ppu]
  dsimp only
  rw [hadvance, hplace.ly, hplace.dot]
  split <;> omega

end

/-! ## A frame (O50) -/

/-- The LCD is on, the invariant holds, and the position is `n`, counted round the frame. -/
structure State.LitAt (n : Nat) (s : State) : Prop where
  body : s.Body
  on : s.ppu.lcdOn = true
  place : 456 * s.ppu.ly + s.ppu.dot = n % 70224

section
variable {n : Nat} {s : State}

/-- In a T-cycle only the PPU touches its own state. -/
theorem tickT_ppu (s : State) : (tickT s).ppu = (ppuT (dmaT (timerT s))).ppu := (collaboratorsT_only _).ppu

theorem State.LitAt.tick (h : s.LitAt n) : (tickT s).LitAt (n + 1) := by
  have hsame : (dmaT (timerT s)).ppu = s.ppu := by rw [(dmaT_only _).ppu, timerT_ppu]
  refine ⟨tickT_body h.body, ?_, ?_⟩
  · rw [tickT_ppu, Ppu.lcdOn_congr (ppuT_only _).lcdc, hsame]; exact h.on
  · rw [tickT_ppu, ppuT_place (by rw [hsame]; exact h.body.ppu) (by rw [hsame]; exact h.on), hsame, h.place]
    omega

theorem State.LitAt.internal (h : s.LitAt n) : (internal s).LitAt (n + 4) :=
  have h4 := h.tick.tick.tick.tick
  ⟨internal_body h.body, h4.on, h4.place⟩

theorem State.LitAt.internal_iterate (h : s.LitAt n) (k : Nat) : (Machine.internal^[k] s).LitAt (n + 4 * k) := by
  induction k with
  | zero => exact h
  | succ k ih =>
    rw [Function.iterate_succ_apply']
    exact ih.internal

end

/-- Settles O50: four T-cycles per M-cycle, one dot per T-cycle. -/
theorem frameTiming : Obligations.FrameTiming := by
  unfold Obligations.FrameTiming
  intro n s hinv hon
  have hly := hinv.ppu.ly
  have hdot := hinv.ppu.dot
  have hstart : s.LitAt (456 * s.ppu.ly + s.ppu.dot) := ⟨hinv.body, hon, (Nat.mod_eq_of_lt (by omega)).symm⟩
  have hend := hstart.internal_iterate n
  exact ⟨hend.on, hend.place⟩

/-! ## V-blank (R363, R384; O51) -/

/-- Line 0's bit of IF is as before. -/
def SameVblank (s t : State) : Prop := t.ifReg.getLsbD 0 = s.ifReg.getLsbD 0

section
variable (s : State)

theorem requestStat_sameVblank : SameVblank s (requestInterrupt .stat s) := by
  simp [SameVblank, IntLine.mask, IntLine.bit]

theorem enterMode_sameVblank (m : PpuMode) : SameVblank s (enterMode m s) := by
  unfold enterMode; dsimp only
  split
  · exact requestStat_sameVblank (s.setPpu _)
  · rfl

theorem lycUpdate_sameVblank : SameVblank s (lycUpdate s) := by
  unfold lycUpdate; dsimp only
  split
  · exact requestStat_sameVblank (s.setPpu _)
  · rfl

theorem lineOut_sameVblank : SameVblank s (lineOut s) := by
  unfold lineOut; dsimp only
  split
  · exact enterMode_sameVblank s .hblank
  · exact enterMode_sameVblank s .hblank

theorem shiftOut_sameVblank (b : Colour) (rest : List Colour) : SameVblank s (shiftOut b rest s) := by
  unfold shiftOut; dsimp only
  split
  · rfl
  · split
    · exact lineOut_sameVblank (s.setPpu _)
    · rfl

theorem shiftOrFetch_sameVblank : SameVblank s (shiftOrFetch s) := by
  unfold shiftOrFetch
  split
  · rfl
  · split
    · rfl
    · exact shiftOut_sameVblank s _ _

theorem spriteFetchDot_sameVblank : SameVblank s (spriteFetchDot s) := by
  unfold spriteFetchDot spriteFetchComplete; dsimp only
  split
  · split <;> rfl
  · rfl

theorem fetcherDot_sameVblank : SameVblank s (fetcherDot s) := by
  unfold fetcherDot
  split <;> rfl

theorem mode3Dot_sameVblank : SameVblank s (mode3Dot s) := by
  unfold mode3Dot
  split
  · exact spriteFetchDot_sameVblank s
  · exact (shiftOrFetch_sameVblank _).trans (fetcherDot_sameVblank (s.setPpu _))

theorem oamScanDot_sameVblank : SameVblank s (oamScanDot s) := by
  unfold oamScanDot wyCheck; dsimp only
  split <;> split <;> rfl

theorem modeDot_sameVblank : SameVblank s (modeDot s) := by
  unfold modeDot
  split
  · exact oamScanDot_sameVblank s
  · exact mode3Dot_sameVblank s
  · rfl
  · rfl

/-- Entering mode 1 sets the bit (R363). -/
theorem startVblank_vblankBit : (startVblank s).ifReg.getLsbD 0 = true := by
  simp [startVblank, framePresent, present, IntLine.mask, IntLine.bit]

theorem endLine_vblankBit :
    (endLine s).ifReg.getLsbD 0 = (s.ifReg.getLsbD 0 || decide (s.ppu.ly = 143)) := by
  have hstart (u : State) : SameVblank u (startLine u) := enterMode_sameVblank (u.setPpu _) .oamScan
  rw [endLine_eq]
  split
  · next h => rw [startVblank_vblankBit, decide_eq_true h, Bool.or_true]
  · next h =>
    rw [decide_eq_false h, Bool.or_false]
    split
    · exact hstart (State.setPpu _ _)
    · split
      · exact hstart s.nextLine
      · rfl

theorem advanceDot_vblankBit :
    (advanceDot s).ifReg.getLsbD 0 = (s.ifReg.getLsbD 0 || decide (s.ppu.ly = 143 ∧ s.ppu.dot = 455)) := by
  rw [advanceDot_eq]
  split
  · rw [decide_eq_false (by omega), Bool.or_false]
    exact enterMode_sameVblank s.nextDot .pixelXfer
  · split
    · next hlast =>
      rw [endLine_vblankBit]
      simp [State.nextDot, hlast]
    · next hlast =>
      rw [decide_eq_false fun hc => hlast hc.2, Bool.or_false]
      rfl

end

theorem lycUpdate_env (s : State) : (lycUpdate s).env = s.env := by
  unfold lycUpdate; dsimp only
  split <;> rfl

theorem startVblank_env (s : State) :
    (startVblank s).env = { s.env with outputs := s.env.outputs ++ [.present s.ppu.drawFb] } := by
  unfold startVblank framePresent present enterMode; dsimp only
  split <;> rfl

/-- The dot that makes LY 144. -/
theorem advanceDot_of_vblank {s : State} (hly : s.ppu.ly = 143) (hdot : s.ppu.dot = 455) :
    advanceDot s = startVblank s.nextDot.nextLine := by
  rw [advanceDot_eq, if_neg (by omega), if_pos hdot, endLine_eq, if_pos]
  exact hly

/-- Settles O51: only the end of line 143 enters V-blank. -/
theorem vblankEntry : Obligations.VblankEntry := by
  unfold Obligations.VblankEntry
  intro s hinv hon
  have hplace := modeDot_samePlace hinv
  rw [ppuT, if_pos hon]
  refine ⟨?bit, fun hly hdot => ?entry, fun hly hdot hm => ?frame⟩
  case bit =>
    rw [lycUpdate_sameVblank, advanceDot_vblankBit, modeDot_sameVblank, hplace.ly, hplace.dot]
  case entry =>
    rw [lycUpdate_ppu, advanceDot_of_vblank (hplace.ly.trans hly) (hplace.dot.trans hdot), startVblank_ppu]
    exact ⟨rfl, congrArg (· + 1) (hplace.ly.trans hly)⟩
  case frame =>
    have hidle : modeDot s = s := by unfold modeDot; rw [hm]
    rw [hidle, lycUpdate_ppu, lycUpdate_env, advanceDot_of_vblank hly hdot, startVblank_ppu, startVblank_env]
    exact ⟨rfl, rfl, rfl⟩

/-! ## The OAM scan (R366; O53) -/

/-- The first ten entries below `n` that are selected, in order. -/
def firstTen (p : Nat → Bool) (n : Nat) : List Nat := ((List.range n).filter p).take 10

theorem firstTen_succ (p : Nat → Bool) (n : Nat) : firstTen p (n + 1) =
    if p n && decide ((firstTen p n).length < 10) then firstTen p n ++ [n] else firstTen p n := by
  unfold firstTen
  rw [List.range_succ, List.filter_append, List.take_append, List.filter_singleton, List.length_take]
  cases p n with
  | false => simp
  | true =>
    by_cases hroom : ((List.range n).filter p).length < 10
    · have hleft : 10 - ((List.range n).filter p).length = (9 - ((List.range n).filter p).length) + 1 := by omega
      simp [hroom, hleft]
    · have hleft : 10 - ((List.range n).filter p).length = 0 := by omega
      simp [hroom, hleft]

/-- Whether OAM entry `i` is on the line, as the scan that starts in `s` tests it. -/
def scans (s : State) (i : Nat) : Bool := onLine (oamByte s i 0) s.ppu.ly s.ppu.objHeight

/-- What the move out of a dot of mode 2 does: the next dot, in mode 3 from dot 80 on, with the same selection. -/
structure ScanMove (p q : Ppu) : Prop where
  mode : q.mode = if p.dot = 79 then .pixelXfer else .oamScan
  dot : q.dot = p.dot + 1
  ly : q.ly = p.ly
  sprites : q.sprites.map Sprite.index = p.sprites.map Sprite.index

theorem advanceDot_of_scan {s : State} (hm : s.ppu.mode = .oamScan) (hd : s.ppu.dot < 80) :
    ScanMove s.ppu (advanceDot s).ppu := by
  rw [advanceDot_eq]
  split
  · next h =>
    refine ⟨(if_pos h.2).symm, rfl, rfl, ?_⟩
    simp [State.startTransfer, State.nextDot, Ppu.lineStart]
  · next h =>
    rw [if_neg (by omega)]
    exact ⟨hm.trans (if_neg fun hc => h ⟨hm, hc⟩).symm, rfl, rfl, rfl⟩

/-- The scan that started in `s` has reached dot `d`. -/
structure Scanning (s : State) (d : Nat) (t : State) : Prop where
  mode : t.ppu.mode = if d = 80 then .pixelXfer else .oamScan
  dot : t.ppu.dot = d
  ly : t.ppu.ly = s.ppu.ly
  lcdc : t.ppu.lcdc = s.ppu.lcdc
  storage : ∀ x, ramRead t x = ramRead s x
  sprites : t.ppu.sprites.map Sprite.index = firstTen (scans s) ((d + 1) / 2)

/-- Entry `i` is examined at dot `2i` (R366). -/
theorem oamScanDot_sprites (s : State) : (oamScanDot s).ppu.sprites =
    if s.ppu.dot % 2 = 0 then scanned (s.ppu.dot / 2) s else s.ppu.sprites := by
  unfold oamScanDot wyCheck; dsimp only
  split <;> split <;> rfl

theorem scanned_index (i : Nat) (s : State) : (scanned i s).map Sprite.index =
    if scans s i && decide ((s.ppu.sprites.map Sprite.index).length < 10) then s.ppu.sprites.map Sprite.index ++ [i]
    else s.ppu.sprites.map Sprite.index := by
  unfold scanned scans; dsimp only
  rw [List.length_map]
  split
  · exact List.map_append
  · rfl

section
variable {s t : State} {d : Nat}

theorem Scanning.scans_eq (h : Scanning s d t) (i : Nat) : scans t i = scans s i := by
  unfold scans oamByte Ppu.objHeight
  rw [h.storage, h.ly, h.lcdc]

/-- The mode's work in dot `d` examines the next entry or none. -/
theorem Scanning.oamScanDot (h : Scanning s d t) :
    (oamScanDot t).ppu.sprites.map Sprite.index = firstTen (scans s) ((d + 2) / 2) := by
  rw [oamScanDot_sprites, h.dot]
  split
  · next heven =>
    have hnext : (d + 2) / 2 = d / 2 + 1 := by omega
    have hdone : (d + 1) / 2 = d / 2 := by omega
    rw [scanned_index, h.scans_eq, h.sprites, hdone, hnext, firstTen_succ]
  · next hodd =>
    have hdone : (d + 2) / 2 = (d + 1) / 2 := by omega
    rw [h.sprites, hdone]

/-- A dot of the scan, and at dot 80 the move into mode 3, which keeps the selection. -/
theorem Scanning.next (h : Scanning s d t) (hd : d < 80) (hon : s.ppu.lcdOn = true) : Scanning s (d + 1) (ppuT t) := by
  have hmode : t.ppu.mode = .oamScan := by rw [h.mode, if_neg (by omega)]
  have hlit : t.ppu.lcdOn = true := (Ppu.lcdOn_congr h.lcdc).trans hon
  have honly := ppuT_only t
  obtain ⟨wy, hscan, -⟩ := oamScanDot_ppu t
  have hmove := advanceDot_of_scan (s := Machine.oamScanDot t) (by rw [hscan]; exact hmode)
    (by rw [hscan]; exact h.dot.trans_lt hd)
  have hplace : (Machine.oamScanDot t).ppu.ly = s.ppu.ly ∧ (Machine.oamScanDot t).ppu.dot = d := by
    rw [hscan]; exact ⟨h.ly, h.dot⟩
  have hdot : (ppuT t).ppu = { (advanceDot (Machine.oamScanDot t)).ppu with lycEqual := (ppuT t).ppu.lycEqual } := by
    rw [ppuT, if_pos hlit, lycUpdate_ppu, modeDot, hmode]
  refine ⟨?_, ?_, ?_, honly.lcdc.trans h.lcdc, fun x => ?_, ?_⟩
  · rw [hdot]
    exact hmove.mode.trans (by rw [hplace.2]; exact if_congr (by omega) rfl rfl)
  · rw [hdot]
    exact hmove.dot.trans (by rw [hplace.2])
  · rw [hdot]
    exact hmove.ly.trans hplace.1
  · exact (ramRead_congr honly.mem (by rw [honly.env]) x).trans (h.storage x)
  · rw [hdot]
    exact hmove.sprites.trans h.oamScanDot

theorem scanning_iterate (hon : s.ppu.lcdOn = true) (hstart : Scanning s 0 s) (hd : d ≤ 80) :
    Scanning s d (ppuT^[d] s) := by
  induction d with
  | zero => exact hstart
  | succ d ih =>
    rw [Function.iterate_succ_apply']
    exact (ih (by omega)).next hd hon

end

/-- Settles O53: 80 dots of the scan examine the 40 entries. -/
theorem oamScan : Obligations.OamScan := by
  unfold Obligations.OamScan
  intro s _ hon hmode hdot hnone
  have hstart : Scanning s 0 s := ⟨hmode, hdot, rfl, rfl, fun _ => rfl, by rw [hnone]; rfl⟩
  have hend := scanning_iterate hon hstart (Nat.le_refl 80)
  exact ⟨hend.mode, hend.dot, hend.sprites⟩

end Sys2Proof.Machine
end

section
/-! PROOFS. Instruction timing (R265, R298, R441; O15). The M-cycles a row takes after its fetch are those of its shared
operation; the opcode table is met row by row, along the quarters of the decoder. -/

namespace Sys2Proof.Machine

/-! ## A row of the opcode table (R441) -/

/-- Run after its fetch, the instruction takes `m` M-cycles, by the flags it starts with. -/
def Takes (i : Instr) (m : Flags → Nat) : Prop :=
  ∀ s, ∃ t, exec i s = .next t ∧ t.cycles = s.cycles + BitVec.ofNat 64 (4 * m s.regs.f)

/-- With its fetch, the instruction takes what the table gives an opcode with this byte after it. -/
def OnTable (op b1 : Byte) (i : Instr) : Prop :=
  ∃ m, Takes i m ∧ ∀ f, tableCycles op b1 f = 4 * (1 + operandReads op + m f)

section
variable {op b1 : Byte} {i : Instr} {g : State → State}

/-- A row whose meaning is a shared operation within the frames. -/
theorem OnTable.of_does {n : Nat} {stored : State → List Word} {regs : State → Regs}
    (hexec : ∀ s, exec i s = .next (g s)) (hdoes : ∀ s, Does (stored s) n (regs s) s (g s))
    (htable : ∀ f, tableCycles op b1 f = 4 * (1 + operandReads op + n)) : OnTable op b1 i :=
  ⟨fun _ => n, fun s => ⟨g s, hexec s, (hdoes s).cycles⟩, htable⟩

/-- A row that takes no M-cycle after its fetch. -/
theorem OnTable.of_free (hexec : ∀ s, exec i s = .next (g s)) (hcycles : ∀ s, (g s).cycles = s.cycles)
    (htable : ∀ f, tableCycles op b1 f = 4 * (1 + operandReads op + 0)) : OnTable op b1 i :=
  ⟨fun _ => 0, fun s => ⟨g s, hexec s, (hcycles s).trans (BitVec.add_zero _).symm⟩, htable⟩

/-- A conditional row, with the table's two columns. -/
theorem OnTable.of_cond {cc : Cond} {taken notTaken : Nat} {stored : State → List Word} {regs : State → Regs}
    (hexec : ∀ s, exec i s = .next (g s))
    (hdoes : ∀ s, Does (stored s) (if s.regs.f.holds cc then taken else notTaken) (regs s) s (g s))
    (htable : ∀ f, tableCycles op b1 f =
      if f.holds cc then 4 * (1 + operandReads op + taken) else 4 * (1 + operandReads op + notTaken)) :
    OnTable op b1 i := by
  refine ⟨fun f => if f.holds cc then taken else notTaken, fun s => ⟨g s, hexec s, (hdoes s).cycles⟩, fun f => ?_⟩
  rw [htable f]
  dsimp only
  split <;> rfl

/-- A row chosen by a test of the opcode. -/
theorem OnTable.ite {p : Prop} [Decidable p] {j : Instr} (hpos : p → OnTable op b1 i) (hneg : ¬p → OnTable op b1 j) :
    OnTable op b1 (if p then i else j) := by
  split
  · next h => exact hpos h
  · next h => exact hneg h

end

/-! ## The columns of the tables -/

/-- The M-cycles of an operand that is a register, or the byte at HL. -/
def operandAccess : Option Reg8 → Nat
  | some _ => 0
  | none => 1

/-- The M-cycles of a load, or of HALT where both fields name the byte at HL. -/
def loadAccess : Option Reg8 → Option Reg8 → Nat
  | some _, src => operandAccess src
  | none, some _ => 1
  | none, none => 0

/-- The M-cycles of a row of the CB table: BIT reads the byte at HL, the others write it back. -/
def cbAccess (x : BitVec 2) : Option Reg8 → Nat
  | some _ => 0
  | none => if x = 1 then 1 else 2

theorem tableCycles_x1 (y z : Oct) (b1 : Byte) (f : Flags) : tableCycles (opcode 1 y z) b1 f =
    4 * (1 + operandReads (opcode 1 y z) + loadAccess (reg8Of y) (reg8Of z)) := by
  cases y <;> cases z <;> rfl

theorem tableCycles_x2 (y z : Oct) (b1 : Byte) (f : Flags) : tableCycles (opcode 2 y z) b1 f =
    4 * (1 + operandReads (opcode 2 y z) + operandAccess (reg8Of z)) := by
  cases y <;> cases z <;> rfl

theorem tableCycles_cb (c : Byte) (f : Flags) : tableCycles 0xCB c f =
    4 * (1 + operandReads 0xCB + cbAccess (c.extractLsb' 6 2) (reg8Of (fieldZ c))) := by
  rw [← opcode_fields c]
  generalize fieldY c = y, fieldZ c = z
  rcases quarter_cases (c.extractLsb' 6 2) with hx | hx | hx | hx
  all_goals
    rw [hx]
    cases y <;> cases z <;> rfl

/-! ## The rows (R110 to R120) -/

theorem decodeCb_onTable (c : Byte) : OnTable 0xCB c (decodeCb c) := by
  have htable := tableCycles_cb c
  unfold decodeCb; dsimp only
  cases hz : reg8Of (fieldZ c) with
  | some r =>
    rw [hz] at htable
    exact .ite (fun _ => .of_does (exec_shiftReg · _ r) (fun s => setRegOut_does s r _) htable) fun _ =>
      .ite (fun _ => .of_does (exec_bitReg · _ r) (bitReg_does · _ r) htable) fun _ =>
      .ite (fun _ => .of_does (exec_resReg · _ r) (resReg_does · _ r) htable) fun _ =>
      .of_does (exec_setReg · _ r) (setReg_does · _ r) htable
  | none =>
    rw [hz] at htable
    unfold cbAccess at htable
    refine .ite (fun hx => ?_) fun _ => .ite (fun hx => ?_) fun hx => ?_
    · rw [hx] at htable
      exact .of_does (exec_shiftMemHl · _) (fun s => modifyMemHl_does s _) htable
    · rw [hx] at htable
      exact .of_does (exec_bitMemHl · _) (bitMemHl_does · _) htable
    · simp only [if_neg hx] at htable
      exact .ite (fun _ => .of_does (exec_resMemHl · _) (resMemHl_does · _) htable) fun _ =>
        .of_does (exec_setMemHl · _) (setMemHl_does · _) htable

section
variable (y z : Oct) (b1 : Byte) (nn : Word)

theorem decodeX1_onTable : OnTable (opcode 1 y z) b1 (decodeX1 y z) := by
  have htable := tableCycles_x1 y z b1
  unfold decodeX1
  cases hy : reg8Of y with
  | some dst =>
    cases hz : reg8Of z with
    | some src => rw [hy, hz] at htable; exact .of_does (exec_ldRegReg · dst src) (ldRegReg_does · dst src) htable
    | none => rw [hy, hz] at htable; exact .of_does (exec_ldRegMemHl · dst) (ldRegMemHl_does · dst) htable
  | none =>
    cases hz : reg8Of z with
    | some src => rw [hy, hz] at htable; exact .of_does (exec_ldMemHlReg · src) (ldMemHlReg_does · src) htable
    | none =>
      rw [hy, hz] at htable
      exact .of_free (g := halt) (fun _ => rfl) (fun s => by unfold halt; split <;> rfl) htable

theorem decodeX2_onTable : OnTable (opcode 2 y z) b1 (decodeX2 y z) := by
  have htable := tableCycles_x2 y z b1
  unfold decodeX2
  cases hz : reg8Of z with
  | some r => rw [hz] at htable; exact .of_does (exec_aluReg · _ r) (aluReg_does · _ r) htable
  | none => rw [hz] at htable; exact .of_does (exec_aluMemHl · _) (aluMemHl_does · _) htable

theorem decodeX0_onTable : OnTable (opcode 0 y z) b1 (decodeX0 y z b1 nn) := by
  cases z with
  | o0 =>
    cases y with
    | o0 => exact .of_does (fun _ => rfl) Does.refl fun _ => rfl
    | o1 => exact .of_does (fun _ => rfl) (ldMemNnSp_does · nn) fun _ => rfl
    | o2 => exact .of_free (g := stop) (fun _ => rfl) (fun _ => rfl) fun _ => rfl
    | o3 => exact .of_does (fun _ => rfl) (jr_does · b1) fun _ => rfl
    | o4 | o5 | o6 | o7 => simp only [decodeX0]; exact .of_cond (exec_jrCond · _ b1) (jrCond_does · _ b1) fun _ => rfl
  | o1 =>
    cases y with
    | o0 | o2 | o4 | o6 =>
      simp only [decodeX0]
      exact .of_does (exec_ldReg16Imm · _ nn) (ldReg16Imm_does · _ nn) fun _ => rfl
    | o1 | o3 | o5 | o7 => simp only [decodeX0]; exact .of_does (exec_addHlReg16 · _) (addHl_does · _) fun _ => rfl
  | o2 =>
    cases y with
    | o0 => exact .of_does (fun _ => rfl) (storeA_does · .bc) fun _ => rfl
    | o1 => exact .of_does (fun _ => rfl) (loadA_does · .bc) fun _ => rfl
    | o2 => exact .of_does (fun _ => rfl) (storeA_does · .de) fun _ => rfl
    | o3 => exact .of_does (fun _ => rfl) (loadA_does · .de) fun _ => rfl
    | o4 => exact .of_does (fun _ => rfl) (storeAHl_does · 1) fun _ => rfl
    | o5 => exact .of_does (fun _ => rfl) (loadAHl_does · 1) fun _ => rfl
    | o6 => exact .of_does (fun _ => rfl) (storeAHl_does · (-1)) fun _ => rfl
    | o7 => exact .of_does (fun _ => rfl) (loadAHl_does · (-1)) fun _ => rfl
  | o3 =>
    cases y with
    | o0 | o2 | o4 | o6 => simp only [decodeX0]; exact .of_does (exec_incReg16 · _) (incReg16_does · _) fun _ => rfl
    | o1 | o3 | o5 | o7 => simp only [decodeX0]; exact .of_does (exec_decReg16 · _) (decReg16_does · _) fun _ => rfl
  | o4 =>
    cases y with
    | o6 => exact .of_does (fun _ => rfl) (fun s => modifyMemHl_does s incByte) fun _ => rfl
    | _ => simp only [decodeX0, reg8Of]; exact .of_does (exec_incReg · _) (fun s => setRegOut_does s _ _) fun _ => rfl
  | o5 =>
    cases y with
    | o6 => exact .of_does (fun _ => rfl) (fun s => modifyMemHl_does s decByte) fun _ => rfl
    | _ => simp only [decodeX0, reg8Of]; exact .of_does (exec_decReg · _) (fun s => setRegOut_does s _ _) fun _ => rfl
  | o6 =>
    cases y with
    | o6 => exact .of_does (fun _ => rfl) (ldMemHlImm_does · b1) fun _ => rfl
    | _ => simp only [decodeX0, reg8Of]; exact .of_does (exec_ldRegImm · _ b1) (ldRegImm_does · _ b1) fun _ => rfl
  | o7 => cases y <;> exact .of_free (fun _ => rfl) (fun _ => rfl) fun _ => rfl

theorem decodeX3_onTable : OnTable (opcode 3 y z) b1 (decodeX3 y z b1 nn) := by
  cases z with
  | o0 =>
    cases y with
    | o0 | o1 | o2 | o3 => simp only [decodeX3]; exact .of_cond (exec_retCond · _) (retCond_does · _) fun _ => rfl
    | o4 => exact .of_does (fun _ => rfl) (ldhStoreImm_does · b1) fun _ => rfl
    | o5 => exact .of_does (fun _ => rfl) (addSp_does · b1) fun _ => rfl
    | o6 => exact .of_does (fun _ => rfl) (ldhLoadImm_does · b1) fun _ => rfl
    | o7 => exact .of_does (fun _ => rfl) (ldHlSp_does · b1) fun _ => rfl
  | o1 =>
    cases y with
    | o0 | o2 | o4 | o6 => simp only [decodeX3]; exact .of_does (exec_popReg · _) (pop_does · _) fun _ => rfl
    | o1 => exact .of_does (fun _ => rfl) ret_does fun _ => rfl
    | o3 => exact ⟨fun _ => 3, fun s => ⟨reti s, rfl, (ret_does s).cycles⟩, fun _ => rfl⟩
    | o5 => exact .of_does (fun _ => rfl) jpHl_does fun _ => rfl
    | o7 => exact .of_does (fun _ => rfl) ldSpHl_does fun _ => rfl
  | o2 =>
    cases y with
    | o0 | o1 | o2 | o3 => simp only [decodeX3]; exact .of_cond (exec_jpCond · _ nn) (jpCond_does · _ nn) fun _ => rfl
    | o4 => exact .of_does (fun _ => rfl) ldhStoreC_does fun _ => rfl
    | o5 => exact .of_does (fun _ => rfl) (ldAbsStore_does · nn) fun _ => rfl
    | o6 => exact .of_does (fun _ => rfl) ldhLoadC_does fun _ => rfl
    | o7 => exact .of_does (fun _ => rfl) (ldAbsLoad_does · nn) fun _ => rfl
  | o3 =>
    cases y with
    | o0 => exact .of_does (fun _ => rfl) (jp_does · nn) fun _ => rfl
    | o1 => exact decodeCb_onTable b1
    | o2 | o3 | o4 | o5 | o6 | o7 => exact .of_free (fun _ => rfl) (fun _ => rfl) fun _ => rfl
  | o4 =>
    cases y with
    | o0 | o1 | o2 | o3 =>
      simp only [decodeX3]
      exact .of_cond (exec_callCond · _ nn) (callCond_does · _ nn) fun _ => rfl
    | o4 | o5 | o6 | o7 => exact .of_free (fun _ => rfl) (fun _ => rfl) fun _ => rfl
  | o5 =>
    cases y with
    | o0 | o2 | o4 | o6 => simp only [decodeX3]; exact .of_does (exec_pushReg · _) (push_does · _) fun _ => rfl
    | o1 => exact .of_does (fun _ => rfl) (call_does · nn) fun _ => rfl
    | o3 | o5 | o7 => exact .of_free (fun _ => rfl) (fun _ => rfl) fun _ => rfl
  | o6 => simp only [decodeX3]; cases y <;> exact .of_does (exec_aluImm · _ b1) (aluImm_does · _ b1) fun _ => rfl
  | o7 =>
    simp only [decodeX3]
    cases y <;> exact .of_does (exec_rst · _) (fun s => call_does s (rstTarget _)) fun _ => rfl

end

theorem decodeOp_onTable (op b1 b2 : Byte) : OnTable op b1 (decodeOp op b1 b2) := by
  have hop := opcode_fields op
  unfold decodeOp
  rcases quarter_cases (op.extractLsb' 6 2) with hx | hx | hx | hx <;> rw [hx] at hop ⊢
  · have h := decodeX0_onTable (fieldY op) (fieldZ op) b1 (wordOf b2 b1)
    rwa [hop] at h
  · have h := decodeX1_onTable (fieldY op) (fieldZ op) b1
    rwa [hop] at h
  · have h := decodeX2_onTable (fieldY op) (fieldZ op) b1
    rwa [hop] at h
  · have h := decodeX3_onTable (fieldY op) (fieldZ op) b1 (wordOf b2 b1)
    rwa [hop] at h

theorem afterInstruction_cycles (was : Bool) (s : State) : (afterInstruction was s).cycles = s.cycles := by
  unfold afterInstruction
  split <;> rfl

/-- Settles O15: the M-cycles of the fetch and those of the row are the table's. -/
theorem instructionCycles : Obligations.InstructionCycles := by
  unfold Obligations.InstructionCycles
  intro s t hl hs hh hn hstep
  obtain ⟨m, htakes, htable⟩ :=
    decodeOp_onTable (pcByte (wake s)) (pcByte (fetch (wake s))) (pcByte (imm8 (fetch (wake s))))
  rw [← fetchedInstr_eq] at htakes
  obtain ⟨u, hexec, hcycles⟩ := htakes (afterFetch (wake s))
  have hfetch := afterFetch_does (wake s)
  have hflags : (afterFetch (wake s)).regs.f = s.regs.f := by rw [hfetch.regs]; rfl
  rw [step_eq_execute hl hs hh hn, executeInstruction_eq hexec] at hstep
  cases hstep
  rw [afterInstruction_cycles, hcycles, hfetch.cycles, hflags, htable, BitVec.add_assoc, ← BitVec.ofNat_add,
    ← Nat.mul_add]
  rfl

end Sys2Proof.Machine
end

section
/-! PROOFS. The reset states (R421 to R423; O57, O58, O59): each register is evaluated, one equation at a time. -/

namespace Sys2Proof.Machine

/-- At reset both framebuffers are empty lists, so every pixel is white. -/
theorem resetIn_pixels (m : BootMode) (i : Nat) :
    (State.resetIn m).ppu.drawFb.pixel i = 0 ∧ (State.resetIn m).ppu.visibleFb.pixel i = 0 := ⟨rfl, rfl⟩

/-- After a BootRom reset nothing is listed, and a byte not listed is zero. -/
theorem ramRead_resetIn_bootRom (x : Nat) : ramRead (State.resetIn .bootRom) x = 0 := rfl

/-- Settles O57: the registers are those of the reset table, and what is read from them is evaluated. -/
theorem postBootReset : Obligations.PostBootReset := by
  unfold Obligations.PostBootReset
  dsimp only
  and_intros
  on_goal -1 => exact resetIn_pixels .postBoot
  all_goals rfl

/-- Settles O58: as O57, with the storage, of which no byte is listed. -/
theorem bootRomReset : Obligations.BootRomReset := by
  unfold Obligations.BootRomReset
  simp only [List.forall_mem_cons, List.not_mem_nil, false_imp_iff, implies_true, and_true]
  and_intros
  on_goal -1 => exact resetIn_pixels .bootRom
  on_goal -1 => exact ramRead_resetIn_bootRom
  all_goals rfl

/-- The memories of a reset state list nothing and its framebuffers no pixel; the counters are at their starts. -/
theorem resetIn_inv (m : BootMode) : (State.resetIn m).Inv := by
  cases m with
  | postBoot | bootRom =>
    exact {
      lists := by constructor <;> decide
      timer := by constructor <;> decide
      dma := by constructor <;> decide
      ppu := by constructor <;> decide
      latch := by constructor <;> decide }

/-- Settles O59: both modes are evaluated, and `State.reset` is the state of the configured mode. -/
theorem invariantAtReset : Obligations.InvariantAtReset := by
  unfold Obligations.InvariantAtReset
  exact ⟨resetIn_inv, resetIn_inv Config.bootMode⟩

end Sys2Proof.Machine
end
